-- ==== Sys2Proof/Word.lean ====
section
/-! DEFINITION. The three value widths of the block (spec 00_scope.md R8, R10): bytes, 32-bit words, 64-bit words.
Every value is unsigned (R10). -/

namespace Sys2Proof

/-- A `u8`: one byte of `IBUF` or of the staging area. -/
abbrev Byte := BitVec 8

/-- A `u32`: a register, a command word, the 32-bit accumulator, a length. -/
abbrev Word := BitVec 32

/-- A `u64`: a 128-bit context's accumulator. -/
abbrev DWord := BitVec 64

end Sys2Proof
end

