-- ==== Sys2Proof/Syntax.lean ====
section
/-! DEFINITION. The twelve commands of 30_encoding.md R74, one constructor per row of spec/opcode_table.json. -/

namespace Sys2Proof

/-- A command. The only operand a command word carries is the tail count `N`, an unsigned 4-bit count (R71, R73). -/
inductive Instr where
  | init32
  | block32
  | tail32 (n : BitVec 4)
  | feed32
  | init128
  | block128
  | tail128 (n : BitVec 4)
  | feed128
  | fin32
  | fin128
  | fmix32
  | fmix64
  deriving DecidableEq, Repr

end Sys2Proof
end

