-- ==== Sys2Proof/WellFormed.lean ====
section
/-! DEFINITION. Which terms of `Instr` are commands of 30_encoding.md R74: the tail counts the map admits. -/

namespace Sys2Proof

/-- `TAIL32 n` is a command for n in 1..3 (R74, R76). -/
abbrev Instr.Tail32CountOk (n : BitVec 4) : Prop := 1 ≤ n.toNat ∧ n.toNat ≤ 3

/-- `TAIL128 n` is a command for n in 1..15 (R74, R76). -/
abbrev Instr.Tail128CountOk (n : BitVec 4) : Prop := 1 ≤ n.toNat ∧ n.toNat ≤ 15

/-- The term is a command of the opcode map. -/
def Instr.wellFormed : Instr → Bool
  | .init32 => true
  | .block32 => true
  | .tail32 n => decide (Tail32CountOk n)
  | .feed32 => true
  | .init128 => true
  | .block128 => true
  | .tail128 n => decide (Tail128CountOk n)
  | .feed128 => true
  | .fin32 => true
  | .fin128 => true
  | .fmix32 => true
  | .fmix64 => true

end Sys2Proof
end

