-- ==== Sys2Proof/Decode.lean ====
section
/-! DEFINITION. The decoder of 30_encoding.md R75, total on every 32-bit word and rejecting by name, and the encoder of
R71 and R74. -/

namespace Sys2Proof

/-- `OP`, bits 3:0 (R71). -/
def opField (w : Word) : BitVec 4 := w.extractLsb' 0 4

/-- `W`, bit 4 (R71). -/
def widthField (w : Word) : Bool := w.getLsbD 4

/-- `RZ0`, bits 7:5, reserved (R71). -/
def rz0Field (w : Word) : BitVec 3 := w.extractLsb' 5 3

/-- `N`, bits 11:8 (R71). -/
def countField (w : Word) : BitVec 4 := w.extractLsb' 8 4

/-- `RZ1`, bits 31:12, reserved (R71). -/
def rz1Field (w : Word) : BitVec 20 := w.extractLsb' 12 20

/-- Why a word is `ILLEGAL`: the four kinds of R76. -/
inductive IllegalReason where
  /-- a nonzero bit in `RZ0` or `RZ1` -/
  | reservedBits
  /-- `OP` = 0x0 or 0x7 to 0xF -/
  | reservedOp
  /-- `N` != 0 on an operation other than TAIL -/
  | countNotZero
  /-- a TAIL whose `N` is out of its range -/
  | tailCount
  deriving DecidableEq, Repr

/-- What a word decodes to (R75): exactly one command, or `ILLEGAL`. -/
inductive Decoded where
  | command (i : Instr)
  | illegal (r : IllegalReason)
  deriving DecidableEq, Repr

/-- A command that carries no count: `N` must be 0 (R75). -/
def decodePlain (n : BitVec 4) (i : Instr) : Decoded :=
  if n = 0 then .command i else .illegal .countNotZero

/-- TAIL (R75): n in 1..3 at the 32-bit width, 1..15 at the 128-bit width. -/
def decodeTail (wide : Bool) (n : BitVec 4) : Decoded :=
  if wide = false ∧ 1 ≤ n.toNat ∧ n.toNat ≤ 3 then .command (.tail32 n)
  else if wide = true ∧ 1 ≤ n.toNat ∧ n.toNat ≤ 15 then .command (.tail128 n)
  else .illegal .tailCount

/-- The decoder (R75). -/
def decode (w : Word) : Decoded :=
  if rz0Field w ≠ 0 ∨ rz1Field w ≠ 0 then .illegal .reservedBits
  else
    match (opField w).toNat with
    | 1 => decodePlain (countField w) (if widthField w then .init128 else .init32)
    | 2 => decodePlain (countField w) (if widthField w then .block128 else .block32)
    | 3 => decodeTail (widthField w) (countField w)
    | 4 => decodePlain (countField w) (if widthField w then .feed128 else .feed32)
    | 5 => decodePlain (countField w) (if widthField w then .fin128 else .fin32)
    | 6 => decodePlain (countField w) (if widthField w then .fmix64 else .fmix32)
    | _ => .illegal .reservedOp

/-- A word of format `CMDW` from its fields, the reserved ones 0 (R71). -/
def packFields (op : BitVec 4) (wide : Bool) (n : BitVec 4) : Word :=
  op.setWidth 32 ||| ((BitVec.ofBool wide).setWidth 32 <<< 4) ||| (n.setWidth 32 <<< 8)

/-- The word of a command, from the `OP`, `W` and `N` columns of R74. -/
def encode : Instr → Word
  | .init32 => packFields 1 false 0
  | .block32 => packFields 2 false 0
  | .tail32 n => packFields 3 false n
  | .feed32 => packFields 4 false 0
  | .init128 => packFields 1 true 0
  | .block128 => packFields 2 true 0
  | .tail128 n => packFields 3 true n
  | .feed128 => packFields 4 true 0
  | .fin32 => packFields 5 false 0
  | .fin128 => packFields 5 true 0
  | .fmix32 => packFields 6 false 0
  | .fmix64 => packFields 6 true 0

/-- The command the decoder reads from the word whose low `nbits` bits are those of `w` and whose other bits are 0;
`none` where the word is `ILLEGAL`. A command is one 32-bit word (R70), bit 0 its least significant bit (R10). -/
def decodeTableWord (nbits w : Nat) : Option Instr :=
  match decode ((BitVec.ofNat nbits w).setWidth 32) with
  | .command i => some i
  | .illegal _ => none

end Sys2Proof
end

