-- ==== Sys2Proof/Config.lean ====
section
/-! DEFINITION. The model parameters of 00_scope.md R9 and the one free value the spec leaves open (93 I1). -/

namespace Sys2Proof

/-- `TAIL_POLICY` (00_scope.md R9): what input after a mixed tail does (60_exceptions.md R204, R206). -/
inductive TailPolicy where
  | fault
  | reference
  deriving DecidableEq, Repr

/-- The parameters of one instance of the hardware (00_scope.md R9): fixed for the instance, the same in every state of
a run. They stand in `State.params` as plain data, so that statements hold for every value of them (log entry 1). -/
structure Params where
  /-- `BASE`: base address of the window (20_memory.md R50). -/
  base : Nat
  /-- `IBUF_SIZE`: bytes in the input buffer. -/
  ibufSize : Nat
  /-- `SEED32_COMPAT`: INIT32 ignores the seed and loads 0. -/
  seed32Compat : Bool
  /-- `TAIL_POLICY`. -/
  tailPolicy : TailPolicy
  deriving DecidableEq, Repr

/-- The values 00_scope.md R9 allows: `BASE` aligned to 8192, `16 <= IBUF_SIZE <= 4096`. -/
abbrev Params.Wf (p : Params) : Prop :=
  p.base % 8192 = 0 ∧ 16 ≤ p.ibufSize ∧ p.ibufSize ≤ 4096

/-- The parameters of `State.reset`. `SEED32_COMPAT` and `TAIL_POLICY` are the defaults of R9.
DESIGN CHOICE (log entry 2, unsafe): R9 leaves `BASE` and `IBUF_SIZE` OPEN; here 0, and the 64 of 95_test_vectors.md. -/
def Params.default : Params :=
  { base := 0, ibufSize := 64, seed32Compat := false, tailPolicy := .fault }

/-- The byte a host read finds at an `IBUF` offset nothing has written since reset (93 I1: `any value`). A free value:
the first argument is the count of reset events (`State.resets`), the second the offset (log entry 8). -/
opaque Config.freeIbufByte : Nat → Nat → Byte

end Sys2Proof
end

