-- ==== Sys2Proof/Machine/State.lean ====
section
/-! DEFINITION. The state of one instance of the block (10_state.md R20), as plain data, its reset value (R45), and the
reasons a step can stop. -/

namespace Sys2Proof.Machine

/-- `CTX32` (10_state.md R23): the state of the 32-bit computation. -/
structure Ctx32 where
  h : Word
  len : Word
  /-- phase: false = ABSORB, true = FINAL -/
  final : Bool
  /-- tail seen since the last INIT32 -/
  ts : Bool
  /-- input was accepted while `ts` was set -/
  nonstd : Bool
  deriving DecidableEq, Repr

/-- `CTX128` (10_state.md R24): the state of the 128-bit computation. -/
structure Ctx128 where
  h1 : DWord
  h2 : DWord
  len : Word
  /-- phase: false = ABSORB, true = FINAL -/
  final : Bool
  /-- tail seen since the last INIT128 -/
  ts : Bool
  /-- input was accepted while `ts` was set -/
  nonstd : Bool
  deriving DecidableEq, Repr

/-- One event at the block's edge: a host access at a host address (20_memory.md R50, 30_encoding.md R79), or the
platform's reset (70_reset_and_hazards.md R230). `size` is the access width in bytes. A write carries its value in the
low `8 * size` bits of `value`; a width over 4 is a bus error whatever it carries (R53, R54; log entry 13). -/
inductive HostEvent where
  | read (addr size : Nat)
  | write (addr size : Nat) (value : Word)
  | reset
  deriving DecidableEq, Repr

/-- What the port answered the host for the last event served (the model's own record, log entry 4). -/
inductive Reply where
  /-- nothing has been answered since reset -/
  | idle
  /-- a write was accepted (a write to `CMD` among them: its command has finished, R240) -/
  | written
  /-- a read of `size` bytes was accepted and returned `value` in its low `8 * size` bits -/
  | data (size : Nat) (value : Word)
  /-- the access was outside the window, so the block did not see it (R50) -/
  | elsewhere
  deriving DecidableEq, Repr

/-- The state of one instance (log entry 16). The fields up to `ibuf` are the spec's, "exactly this, and nothing else"
(10_state.md R20); the last four are the model's own (INVENTORY.md, `## State`). -/
structure State where
  ctx32 : Ctx32
  ctx128 : Ctx128
  seed : Word
  kdata0 : Word
  kdata1 : Word
  kdata2 : Word
  kdata3 : Word
  foff : Word
  flen : Word
  dig32 : Word
  dig128_0 : Word
  dig128_1 : Word
  dig128_2 : Word
  dig128_3 : Word
  lastErr : BitVec 4
  errSeen : Bool
  /-- `IBUF`: the bytes written since reset, by offset, offsets strictly rising. An unlisted byte has no value
  (93 I1; log entry 7). -/
  ibuf : List Host.Cell
  /-- MODEL: the parameters of the instance (00_scope.md R9); no step changes them (log entry 1). -/
  params : Params
  /-- MODEL: events not yet served, oldest first, in the order the port takes them (20_memory.md R60, R61; log
  entries 3 and 11). -/
  pending : List HostEvent
  /-- MODEL: the port's last answer (log entry 4). -/
  reply : Reply
  /-- MODEL: reset events served; selects the free bytes of unwritten `IBUF` offsets (log entry 8). -/
  resets : Nat
  deriving DecidableEq, Repr

/-- Why the machine stops. -/
inductive Fault where
  /-- Raised by FEED32 and FEED128, once admitted, when a byte of their range has not been written since reset:
  `model_fault(uninitialised_ibuf)` (60_exceptions.md R211). Safe: the hardware goes on with an unspecified byte. -/
  | uninitialisedIbuf
  deriving DecidableEq, Repr

/-- Why a step has no meaning. -/
inductive Refusal where
  /-- Raised by an arm of `exec` whose command has no meaning yet; no arm of this model is one. Safe. -/
  | notModelled (mnemonic : String)
  /-- Raised when the oldest pending host access is a bus error (20_memory.md R53, R54): the access is refused and the
  run is ended in a bus-error outcome (93 I7; log entry 5). Safe: the block itself goes on unchanged. -/
  | busError
  deriving DecidableEq, Repr

/-- Every piece of the spec's state at its reset value (10_state.md R45), for an instance with parameters `p`. No
`IBUF` byte counts as written after reset (R232, R45; log entry 9). -/
def State.afterReset (p : Params) (pending : List HostEvent) (resets : Nat) : State where
  ctx32 := { h := 0, len := 0, final := false, ts := false, nonstd := false }
  ctx128 := { h1 := 0, h2 := 0, len := 0, final := false, ts := false, nonstd := false }
  seed := 0
  kdata0 := 0
  kdata1 := 0
  kdata2 := 0
  kdata3 := 0
  foff := 0
  flen := 0
  dig32 := 0
  dig128_0 := 0
  dig128_1 := 0
  dig128_2 := 0
  dig128_3 := 0
  lastErr := 0
  errSeen := false
  ibuf := []
  params := p
  pending := pending
  reply := .idle
  resets := resets

/-- The machine right after reset, with nothing pending (log entry 14 for the model's own fields). -/
def State.reset : State := State.afterReset Params.default [] 0

end Sys2Proof.Machine
end

