-- ==== Sys2Proof/Machine/Flags.lean ====
section
/-! DEFINITION. The block's only flags: the error codes (60_exceptions.md R200), the `STATUS` word (10_state.md R36), the
`CONFIG` word (R37), and what an input command does to a context's `ts` and `nonstd` (R28). -/

namespace Sys2Proof.Machine

/-- The errors of 60_exceptions.md R200. -/
inductive CmdError where
  | invalidArgument
  | misuseFinalized
  | misuseTailNotLast
  | lengthOverflow
  | illegalCommand
  deriving DecidableEq, Repr

/-- The code written to `LAST_ERR` (R200). -/
def CmdError.code : CmdError → BitVec 4
  | .invalidArgument => 1
  | .misuseFinalized => 2
  | .misuseTailNotLast => 3
  | .lengthOverflow => 4
  | .illegalCommand => 5

/-- One bit placed at position `k` of a 32-bit word. -/
def bitAt (k : Nat) (b : Bool) : Word := (BitVec.ofBool b).setWidth 32 <<< k

/-- The value a read of `STATUS` returns (10_state.md R36); bits 7:6 and 31:13 read 0. -/
def statusWord (s : State) : Word :=
  bitAt 0 s.ctx32.final ||| bitAt 1 s.ctx128.final
    ||| bitAt 2 s.ctx32.ts ||| bitAt 3 s.ctx128.ts
    ||| bitAt 4 s.ctx32.nonstd ||| bitAt 5 s.ctx128.nonstd
    ||| (s.lastErr.setWidth 32 <<< 8) ||| bitAt 12 s.errSeen

/-- The value a read of `CONFIG` returns (10_state.md R37). -/
def configWord (p : Params) : Word :=
  bitAt 0 p.seed32Compat ||| bitAt 1 (decide (p.tailPolicy = .reference))

/-- `nonstd` after an accepted input of `nbytes` bytes (10_state.md R28): set if there was input while `ts` was set. -/
def nonstdAfter (ts nonstd : Bool) (nbytes : Nat) : Bool :=
  nonstd || (ts && decide (0 < nbytes))

/-- `ts` after an accepted input (10_state.md R28): set if the input mixed a tail. -/
def tsAfter (ts mixedTail : Bool) : Bool := ts || mixedTail

end Sys2Proof.Machine
end

