-- ==== Sys2Proof/Machine/Ops.lean ====
section
/-! DEFINITION. The named operations the meanings share: rotations (00_scope.md R11), little-endian assembly (R13,
20_memory.md R52), the input buffer's memory (R13), the admission checks (60_exceptions.md R206), and the
completion of a command, with success or with an error (R205). The block has no trap entry and no return from one
(R208, R209): `raise` is all an error does. -/

namespace Sys2Proof.Machine

/-- `rotl_32(a, r)` for 0 < r < 32 (00_scope.md R11). -/
def rotl32 (a : Word) (r : Nat) : Word := (a <<< r) ||| (a >>> (32 - r))

/-- `rotl_64(a, r)` for 0 < r < 64 (00_scope.md R11). -/
def rotl64 (a : DWord) (r : Nat) : DWord := (a <<< r) ||| (a >>> (64 - r))

/-- The little-endian value of a byte list, first byte in bits 7:0 (20_memory.md R52). -/
def leWord (width : Nat) : List Byte → BitVec width
  | [] => 0
  | b :: bs => b.setWidth width ||| (leWord width bs <<< 8)

/-- Byte `i` of a word, bits `8i+7:8i`. -/
def byteOf (v : Word) (i : Nat) : Byte := v.extractLsb' (8 * i) 8

/-- The two 32-bit halves of a 64-bit value: bits 31:0 and 63:32. -/
def lowHalf (v : DWord) : Word := v.extractLsb' 0 32

/-- Bits 63:32 of a 64-bit value. -/
def highHalf (v : DWord) : Word := v.extractLsb' 32 32

/-- `hi:lo`, that is `zext_64(hi) << 32 | zext_64(lo)` (41_murmur128_mixer.md R135, 42_murmur_finalizer.md R175). -/
def joinHalves (hi lo : Word) : DWord := (hi.setWidth 64 <<< 32) ||| lo.setWidth 64

/-- The canonical form of memory: offsets strictly rising. An unlisted offset has no value, so no entry repeats one. -/
abbrev Memory.wf (m : List Host.Cell) : Prop := m.Pairwise (fun x y => x.1 < y.1)

/-- The byte at offset `a`, or none where nothing has written it since reset. -/
def readByte : List Host.Cell → Nat → Option Byte
  | [], _ => none
  | (k, b) :: m, a => if k = a then some b else readByte m a

/-- Sets the byte at offset `a`, keeping the canonical form. -/
def writeByte : List Host.Cell → Nat → Byte → List Host.Cell
  | [], a, v => [(a, v)]
  | (k, b) :: m, a, v =>
    if a < k then (a, v) :: (k, b) :: m
    else if a = k then (a, v) :: m
    else (k, b) :: writeByte m a v

/-- `MemWrite(a, size, v)` (00_scope.md R13): byte `a + i` takes bits `8i+7:8i` of `v`. -/
def writeBytes (m : List Host.Cell) (a : Nat) (v : Word) : Nat → List Host.Cell
  | 0 => m
  | n + 1 => writeByte (writeBytes m a v n) (a + n) (byteOf v n)

/-- The `n` bytes from offset `a` on, or none where one of them has not been written since reset. -/
def readRange (m : List Host.Cell) : Nat → Nat → Option (List Byte)
  | _, 0 => some []
  | a, n + 1 =>
    match readByte m a, readRange m (a + 1) n with
    | some b, some bs => some (b :: bs)
    | _, _ => none

/-- The success of an INIT or input command of the 32-bit width (60_exceptions.md R205): `CTX32 <- c`, `LAST_ERR <- 0`. -/
def succeed32 (c : Ctx32) (s : State) : State := { s with ctx32 := c, lastErr := 0 }

/-- The success of an INIT or input command of the 128-bit width (R205): `CTX128 <- c`, `LAST_ERR <- 0`. -/
def succeed128 (c : Ctx128) (s : State) : State := { s with ctx128 := c, lastErr := 0 }

/-- The success of FIN32 (R205; 10_state.md R33): `CTX32 <- c`, `DIG32 <- h`, `LAST_ERR <- 0`. -/
def finish32 (c : Ctx32) (h : Word) (s : State) : State := { s with ctx32 := c, dig32 := h, lastErr := 0 }

/-- The success of FIN128 (R205; 10_state.md R34): `CTX128 <- c`, the four digest words from the accumulators `h1` and
`h2`, `LAST_ERR <- 0`. -/
def finish128 (c : Ctx128) (h1 h2 : DWord) (s : State) : State :=
  { s with
    ctx128 := c
    dig128_0 := lowHalf h1
    dig128_1 := highHalf h1
    dig128_2 := lowHalf h2
    dig128_3 := highHalf h2
    lastErr := 0 }

/-- The success of FMIX32 and FMIX64 (R205): `KDATA0 <- k0`, `KDATA1 <- k1`, `LAST_ERR <- 0`. -/
def succeedKdata (k0 k1 : Word) (s : State) : State := { s with kdata0 := k0, kdata1 := k1, lastErr := 0 }

/-- The input buffer after a host write. -/
def State.setIbuf (s : State) (m : List Host.Cell) : State := { s with ibuf := m }

/-- The port's answer to the host. -/
def State.setReply (s : State) (r : Reply) : State := { s with reply := r }

/-- The events still to be served. -/
def State.setPending (s : State) (es : List HostEvent) : State := { s with pending := es }

/-- A command's failure with error `e` (60_exceptions.md R205): `LAST_ERR <- e`, `ERR_SEEN <- 1`, nothing else. -/
def raise (e : CmdError) (s : State) : State := { s with lastErr := e.code, errSeen := true }

/-- The operations the admission checks distinguish (60_exceptions.md R206). -/
inductive AdmitOp where
  | block
  | tail
  | feed
  | fin
  deriving DecidableEq, Repr

/-- The admission function of 60_exceptions.md R206, on a context's `final`, `ts` and `len`: the first check that fails,
in the order of the rule, or none. Both sums are unbounded (R203, R207). -/
def admission (final ts : Bool) (len : Word) (op : AdmitOp) (nbytes : Nat) (s : State) : Option CmdError :=
  if final = true then some .misuseFinalized
  else if op = .feed ∧ s.params.ibufSize < s.foff.toNat + s.flen.toNat then some .invalidArgument
  else if op ≠ .fin ∧ 0 < nbytes ∧ ts = true ∧ s.params.tailPolicy = .fault then some .misuseTailNotLast
  else if op ≠ .fin ∧ 4294967295 < len.toNat + nbytes then some .lengthOverflow
  else none

/-- The checks on `CTX32`. -/
def admit32 (op : AdmitOp) (nbytes : Nat) (s : State) : Option CmdError :=
  admission s.ctx32.final s.ctx32.ts s.ctx32.len op nbytes s

/-- The checks on `CTX128`. -/
def admit128 (op : AdmitOp) (nbytes : Nat) (s : State) : Option CmdError :=
  admission s.ctx128.final s.ctx128.ts s.ctx128.len op nbytes s

/-- Ends the command at the first failed check, before any state is written (00_scope.md R15, 60_exceptions.md R206);
goes on with `k` where all checks passed. -/
def unlessRaised (check : Option CmdError) (s : State) (k : Host.Outcome State Fault Refusal) :
    Host.Outcome State Fault Refusal :=
  match check with
  | some e => .next (raise e s)
  | none => k

/-- `CTX32` after an accepted input of `nbytes` bytes that left the accumulator `h`: the length, `ts` and `nonstd` of
BLOCK32, TAIL32 and FEED32 (10_state.md R28; 40_murmur32_mixer.md R105, R110, R115). -/
def Ctx32.absorbed (c : Ctx32) (h : Word) (nbytes : Nat) (mixedTail : Bool) : Ctx32 :=
  { c with
    h := h
    len := c.len + BitVec.ofNat 32 nbytes
    ts := tsAfter c.ts mixedTail
    nonstd := nonstdAfter c.ts c.nonstd nbytes }

/-- `CTX128` after an accepted input of `nbytes` bytes that left the accumulators `h.1` and `h.2` (10_state.md R28;
41_murmur128_mixer.md R135, R140, R145). -/
def Ctx128.absorbed (c : Ctx128) (h : DWord × DWord) (nbytes : Nat) (mixedTail : Bool) : Ctx128 :=
  { c with
    h1 := h.1
    h2 := h.2
    len := c.len + BitVec.ofNat 32 nbytes
    ts := tsAfter c.ts mixedTail
    nonstd := nonstdAfter c.ts c.nonstd nbytes }

/-- Changes the next state of an outcome, if it is one. -/
def mapNext (f : State → State) : Host.Outcome State Fault Refusal → Host.Outcome State Fault Refusal
  | .next s => .next (f s)
  | .fault r => .fault r
  | .refused r => .refused r

end Sys2Proof.Machine
end

