-- ==== Sys2Proof/Machine/Operands.lean ====
section
/-! DEFINITION. The operands commands read when they execute (30_encoding.md R73): the staging byte view (00_scope.md
R14), the 64-bit words of the staging area (41_murmur128_mixer.md R135), the range of `IBUF` a FEED mixes
(20_memory.md R55), the seed (40_murmur32_mixer.md R100), the tail counts (R110, R140). -/

namespace Sys2Proof.Machine

/-- `KDATA[i]` for i in 0..3. -/
def kdata (s : State) : Nat → Word
  | 0 => s.kdata0
  | 1 => s.kdata1
  | 2 => s.kdata2
  | _ => s.kdata3

/-- `S(j)` for 0 <= j < 16: byte `j` of the staging area (00_scope.md R14). -/
def stagingByte (s : State) (j : Nat) : Byte := byteOf (kdata s (j / 4)) (j % 4)

/-- `[S(j), ..., S(j + n - 1)]`. -/
def stagingFrom (s : State) : Nat → Nat → List Byte
  | _, 0 => []
  | j, n + 1 => stagingByte s j :: stagingFrom s (j + 1) n

/-- `[S(0), ..., S(n-1)]`, the tail TAIL32 n and TAIL128 n read. -/
def stagingBytes (s : State) (n : Nat) : List Byte := stagingFrom s 0 n

/-- `k1 = KDATA1:KDATA0`, staging bytes 0 to 7 (R135); the operand of FMIX64 (42_murmur_finalizer.md R175). -/
def stagedK1 (s : State) : DWord := joinHalves s.kdata1 s.kdata0

/-- `k2 = KDATA3:KDATA2`, staging bytes 8 to 15 (R135). -/
def stagedK2 (s : State) : DWord := joinHalves s.kdata3 s.kdata2

/-- `IBUF[FOFF .. FOFF+FLEN-1]`, none where a byte of it has not been written since reset (R211). -/
def feedBytes (s : State) : Option (List Byte) := readRange s.ibuf s.foff.toNat s.flen.toNat

/-- The seed INIT32 loads (40_murmur32_mixer.md R100): 0 under `SEED32_COMPAT`. -/
def seed32 (s : State) : Word := if s.params.seed32Compat then 0 else s.seed

/-- The check of TAIL32's count: `ILLEGAL_COMMAND` if n = 0 or n > 3 (40_murmur32_mixer.md R110; log entry 10). -/
def tail32CountCheck (n : BitVec 4) : Option CmdError :=
  if 1 ≤ n.toNat ∧ n.toNat ≤ 3 then none else some .illegalCommand

/-- The check of TAIL128's count: `ILLEGAL_COMMAND` if n = 0 (41_murmur128_mixer.md R140; log entry 10). -/
def tail128CountCheck (n : BitVec 4) : Option CmdError :=
  if n.toNat = 0 then some .illegalCommand else none

end Sys2Proof.Machine
end

