-- ==== Sys2Proof/Machine/Finalizer.lean ====
section
/-! DEFINITION. The finalizer (42_murmur_finalizer.md): `fmix32` (R161), `fmix64` (R162), and the meanings of FIN32,
FIN128, FMIX32 and FMIX64. Constants stand first, as in Mixer32. -/

namespace Sys2Proof.Machine

/-- `fmix32(k)` (R161), with the constants of R160. -/
def fmix32 (k : Word) : Word :=
  let k := k ^^^ (k >>> 16)
  let k := 0x85ebca6b * k
  let k := k ^^^ (k >>> 13)
  let k := 0xc2b2ae35 * k
  k ^^^ (k >>> 16)

/-- `fmix64(k)` (R162), with the constants of R160. -/
def fmix64 (k : DWord) : DWord :=
  let k := k ^^^ (k >>> 33)
  let k := 0xff51afd7ed558ccd * k
  let k := k ^^^ (k >>> 33)
  let k := 0xc4ceb9fe1a85ec53 * k
  k ^^^ (k >>> 33)

/-- The accumulators FIN128 leaves (R167), with the length zero-extended (R168). -/
def fin128 (h1 h2 : DWord) (len : Word) : DWord × DWord :=
  let l := len.setWidth 64
  let h1 := h1 ^^^ l
  let h2 := h2 ^^^ l
  let h1 := h1 + h2
  let h2 := h2 + h1
  let h1 := fmix64 h1
  let h2 := fmix64 h2
  let h1 := h1 + h2
  let h2 := h2 + h1
  (h1, h2)

/-- FIN32 (R165). -/
def execFin32 (s : State) : Host.Outcome State Fault Refusal :=
  let h := fmix32 (s.ctx32.h ^^^ s.ctx32.len)
  unlessRaised (admit32 .fin 0 s) s
    (.next (finish32 { s.ctx32 with h := h, final := true } h s))

/-- FIN128 (R167). -/
def execFin128 (s : State) : Host.Outcome State Fault Refusal :=
  let h := fin128 s.ctx128.h1 s.ctx128.h2 s.ctx128.len
  unlessRaised (admit128 .fin 0 s) s
    (.next (finish128 { s.ctx128 with h1 := h.1, h2 := h.2, final := true } h.1 h.2 s))

/-- FMIX32 (R170). Accepted in every phase of both contexts. -/
def execFmix32 (s : State) : Host.Outcome State Fault Refusal :=
  .next (succeedKdata (fmix32 s.kdata0) s.kdata1 s)

/-- FMIX64 (R175). Accepted in every phase of both contexts. -/
def execFmix64 (s : State) : Host.Outcome State Fault Refusal :=
  let v := fmix64 (stagedK1 s)
  .next (succeedKdata (lowHalf v) (highHalf v) s)

end Sys2Proof.Machine
end

