-- ==== Sys2Proof/Machine/Mixer128.lean ====
section
/-! DEFINITION. The 128-bit mixer (41_murmur128_mixer.md): its pure functions (R131 to R134) and the meanings of INIT128,
BLOCK128, TAIL128 and FEED128. A pair holds the accumulators `h1` and `h2`. Constants stand first, as in Mixer32. -/

namespace Sys2Proof.Machine

/-- `mixk1_64(k)` (R132), with the constants of R131. -/
def mixk1 (k : DWord) : DWord := 0x4cf5ad432745937f * rotl64 (0x87c37b91114253d5 * k) 31

/-- `mixk2_64(k)` (R132): the constants swap places. -/
def mixk2 (k : DWord) : DWord := 0x87c37b91114253d5 * rotl64 (0x4cf5ad432745937f * k) 33

/-- `block128(h1, h2, k1, k2)` (R133; 90_conflicts.md C1 and C2): line 2 reads the old `h2`, line 4 the new `h1`. -/
def block128 (h : DWord × DWord) (k1 k2 : DWord) : DWord × DWord :=
  let h1 := h.1 ^^^ mixk1 k1
  let h1 := 0x52dce729 + 5 * (rotl64 h1 27 + h.2)
  let h2 := h.2 ^^^ mixk2 k2
  let h2 := 0x38495ab5 + 5 * (rotl64 h2 31 + h1)
  (h1, h2)

/-- `tailwords128(b, n)` (R134), on the list of the `n` tail bytes: bytes 0 to 7 form `k1`, the others `k2`. -/
def tailwords128 (b : List Byte) : DWord × DWord := (leWord 64 (b.take 8), leWord 64 (b.drop 8))

/-- `tail128(h1, h2, b, n)` (R134). -/
def tail128 (h : DWord × DWord) (b : List Byte) : DWord × DWord :=
  let k := tailwords128 b
  let h2 := h.2 ^^^ mixk2 k.2
  let h1 := h.1 ^^^ mixk1 k.1
  (h1, h2)

/-- The block loop of FEED128 (R145): mixes the first `nb` 16-byte blocks of `bs`. -/
def blocks128 : Nat → List Byte → DWord × DWord → DWord × DWord
  | 0, _, h => h
  | nb + 1, bs, h =>
    blocks128 nb (bs.drop 16) (block128 h (leWord 64 (bs.take 8)) (leWord 64 ((bs.drop 8).take 8)))

/-- What FEED128 does to the accumulators (R145). -/
def absorb128 (bs : List Byte) (h : DWord × DWord) : DWord × DWord :=
  let nb := bs.length / 16
  let h' := blocks128 nb bs h
  if bs.length % 16 = 0 then h' else tail128 h' (bs.drop (16 * nb))

/-- INIT128 (R130). Accepted in every phase; `SEED32_COMPAT` does not apply. -/
def execInit128 (s : State) : Host.Outcome State Fault Refusal :=
  .next (succeed128
    { h1 := s.seed.setWidth 64, h2 := s.seed.setWidth 64, len := 0, final := false, ts := false, nonstd := false } s)

/-- BLOCK128 (R135). -/
def execBlock128 (s : State) : Host.Outcome State Fault Refusal :=
  unlessRaised (admit128 .block 16 s) s
    (.next (succeed128
      (s.ctx128.absorbed (block128 (s.ctx128.h1, s.ctx128.h2) (stagedK1 s) (stagedK2 s)) 16 false) s))

/-- TAIL128 n (R140). -/
def execTail128 (n : BitVec 4) (s : State) : Host.Outcome State Fault Refusal :=
  unlessRaised (tail128CountCheck n) s <|
  unlessRaised (admit128 .tail n.toNat s) s
    (.next (succeed128
      (s.ctx128.absorbed (tail128 (s.ctx128.h1, s.ctx128.h2) (stagingBytes s n.toNat)) n.toNat true) s))

/-- FEED128 (R145). A byte of the range that nothing has written since reset is a model fault (60_exceptions.md R211). -/
def execFeed128 (s : State) : Host.Outcome State Fault Refusal :=
  unlessRaised (admit128 .feed s.flen.toNat s) s <|
    match feedBytes s with
    | none => .fault .uninitialisedIbuf
    | some bs =>
      .next (succeed128
        (s.ctx128.absorbed (absorb128 bs (s.ctx128.h1, s.ctx128.h2)) s.flen.toNat
          (decide (s.flen.toNat % 16 ≠ 0))) s)

end Sys2Proof.Machine
end

