-- ==== Sys2Proof/Machine/Mixer32.lean ====
section
/-! DEFINITION. The 32-bit mixer (40_murmur32_mixer.md): its pure functions (R101 to R104) and the meanings of INIT32,
BLOCK32, TAIL32 and FEED32. A constant factor or addend stands first (`c1 * k` for the spec's `k * c1`): the wrapping
product and sum are the same, and Lean's kernel unfolds a sum or product along its second operand. -/

namespace Sys2Proof.Machine

/-- `mixk32(k)` (R102), with the constants of R101. -/
def mixk32 (k : Word) : Word := 0x1b873593 * rotl32 (0xcc9e2d51 * k) 15

/-- `block32(h, k)` (R103). -/
def block32 (h k : Word) : Word := 0xe6546b64 + 5 * rotl32 (h ^^^ mixk32 k) 13

/-- `tailword32(b, n)` (R104), on the list of the `n` tail bytes. -/
def tailword32 (b : List Byte) : Word := leWord 32 b

/-- `tail32(h, b, n)` (R104): no rotate and no add step. -/
def tail32 (h : Word) (b : List Byte) : Word := h ^^^ mixk32 (tailword32 b)

/-- The block loop of FEED32 (R115): mixes the first `nb` 4-byte little-endian words of `bs`. -/
def blocks32 : Nat → List Byte → Word → Word
  | 0, _, h => h
  | nb + 1, bs, h => blocks32 nb (bs.drop 4) (block32 h (leWord 32 (bs.take 4)))

/-- What FEED32 does to the accumulator (R115): the full words in order, then the remainder as a tail, if there is one. -/
def absorb32 (bs : List Byte) (h : Word) : Word :=
  let nb := bs.length / 4
  let h' := blocks32 nb bs h
  if bs.length % 4 = 0 then h' else tail32 h' (bs.drop (4 * nb))

/-- INIT32 (R100). Accepted in every phase. -/
def execInit32 (s : State) : Host.Outcome State Fault Refusal :=
  .next (succeed32 { h := seed32 s, len := 0, final := false, ts := false, nonstd := false } s)

/-- BLOCK32 (R105). -/
def execBlock32 (s : State) : Host.Outcome State Fault Refusal :=
  unlessRaised (admit32 .block 4 s) s
    (.next (succeed32 (s.ctx32.absorbed (block32 s.ctx32.h s.kdata0) 4 false) s))

/-- TAIL32 n (R110). -/
def execTail32 (n : BitVec 4) (s : State) : Host.Outcome State Fault Refusal :=
  unlessRaised (tail32CountCheck n) s <|
  unlessRaised (admit32 .tail n.toNat s) s
    (.next (succeed32 (s.ctx32.absorbed (tail32 s.ctx32.h (stagingBytes s n.toNat)) n.toNat true) s))

/-- FEED32 (R115). A byte of the range that nothing has written since reset is a model fault (60_exceptions.md R211). -/
def execFeed32 (s : State) : Host.Outcome State Fault Refusal :=
  unlessRaised (admit32 .feed s.flen.toNat s) s <|
    match feedBytes s with
    | none => .fault .uninitialisedIbuf
    | some bs =>
      .next (succeed32
        (s.ctx32.absorbed (absorb32 bs s.ctx32.h) s.flen.toNat (decide (s.flen.toNat % 4 ≠ 0))) s)

end Sys2Proof.Machine
end

