-- ==== Sys2Proof/Machine/Dispatch.lean ====
section
/-! DEFINITION. One arm per command: the meaning of each (30_encoding.md R74). -/

namespace Sys2Proof.Machine

def exec (i : Instr) (s : State) : Host.Outcome State Fault Refusal :=
  match i with
  | .init32 => Sys2Proof.Machine.execInit32 s
  | .block32 => Sys2Proof.Machine.execBlock32 s
  | .tail32 n => Sys2Proof.Machine.execTail32 n s
  | .feed32 => Sys2Proof.Machine.execFeed32 s
  | .init128 => Sys2Proof.Machine.execInit128 s
  | .block128 => Sys2Proof.Machine.execBlock128 s
  | .tail128 n => Sys2Proof.Machine.execTail128 n s
  | .feed128 => Sys2Proof.Machine.execFeed128 s
  | .fin32 => Sys2Proof.Machine.execFin32 s
  | .fin128 => Sys2Proof.Machine.execFin128 s
  | .fmix32 => Sys2Proof.Machine.execFmix32 s
  | .fmix64 => Sys2Proof.Machine.execFmix64 s

end Sys2Proof.Machine
end

