-- ==== Sys2Proof/Machine/HostPort.lean ====
section
/-! DEFINITION. The host port: the register map (10_state.md R41), the access rules of both regions (20_memory.md R50 to
R54), command issue through `CMD` (10_state.md R40, 30_encoding.md R70, R75), and the service of one event (R60, R230). -/

namespace Sys2Proof.Machine

/-- The registers of 10_state.md R41. -/
inductive Reg where
  | id
  | status
  | cmd
  | seed
  | kdata0
  | kdata1
  | kdata2
  | kdata3
  | foff
  | flen
  | len32
  | len128
  | dig32
  | dig128_0
  | dig128_1
  | dig128_2
  | dig128_3
  | config
  | ibufsz
  deriving DecidableEq, Repr

/-- The offset of a register from `BASE` (R41). -/
def regOffset : Reg → Nat
  | .id => 0x000
  | .status => 0x004
  | .cmd => 0x008
  | .seed => 0x00C
  | .kdata0 => 0x010
  | .kdata1 => 0x014
  | .kdata2 => 0x018
  | .kdata3 => 0x01C
  | .foff => 0x020
  | .flen => 0x024
  | .len32 => 0x028
  | .len128 => 0x02C
  | .dig32 => 0x030
  | .dig128_0 => 0x040
  | .dig128_1 => 0x044
  | .dig128_2 => 0x048
  | .dig128_3 => 0x04C
  | .config => 0x050
  | .ibufsz => 0x054

/-- Every register of R41. -/
def allRegs : List Reg :=
  [.id, .status, .cmd, .seed, .kdata0, .kdata1, .kdata2, .kdata3, .foff, .flen]
    ++ [.len32, .len128, .dig32, .dig128_0, .dig128_1, .dig128_2, .dig128_3, .config, .ibufsz]

/-- The register at an offset; none at a reserved or misaligned one (R41, R53). -/
def regAt (off : Nat) : Option Reg := allRegs.find? (fun r => regOffset r == off)

/-- The value a read of a register returns; none for `CMD`, which is write only (10_state.md R30 to R40). -/
def readReg (r : Reg) (s : State) : Option Word :=
  match r with
  | .id => some 0x33484D4D
  | .status => some (statusWord s)
  | .cmd => none
  | .seed => some s.seed
  | .kdata0 => some s.kdata0
  | .kdata1 => some s.kdata1
  | .kdata2 => some s.kdata2
  | .kdata3 => some s.kdata3
  | .foff => some s.foff
  | .flen => some s.flen
  | .len32 => some s.ctx32.len
  | .len128 => some s.ctx128.len
  | .dig32 => some s.dig32
  | .dig128_0 => some s.dig128_0
  | .dig128_1 => some s.dig128_1
  | .dig128_2 => some s.dig128_2
  | .dig128_3 => some s.dig128_3
  | .config => some (configWord s.params)
  | .ibufsz => some (BitVec.ofNat 32 s.params.ibufSize)

/-- Issues the command `w` (R70, R75): executes it, or raises `ILLEGAL_COMMAND` where the word is `ILLEGAL` (R201). -/
def issueCommand (w : Word) (s : State) : Host.Outcome State Fault Refusal :=
  match decode w with
  | .illegal _ => .next (raise .illegalCommand s)
  | .command i => exec i s

/-- A 32-bit write of `v` to a register: a read-write register takes all 32 bits and nothing else happens (10_state.md
R42), `CMD` issues a command, a write to a read-only register is a bus error (20_memory.md R53). -/
def writeReg (r : Reg) (v : Word) (s : State) : Host.Outcome State Fault Refusal :=
  match r with
  | .cmd => issueCommand v s
  | .seed => .next { s with seed := v }
  | .kdata0 => .next { s with kdata0 := v }
  | .kdata1 => .next { s with kdata1 := v }
  | .kdata2 => .next { s with kdata2 := v }
  | .kdata3 => .next { s with kdata3 := v }
  | .foff => .next { s with foff := v }
  | .flen => .next { s with flen := v }
  | .id | .status | .len32 | .len128 | .dig32 | .dig128_0 | .dig128_1 | .dig128_2 | .dig128_3
  | .config | .ibufsz => .refused .busError

/-- The `IBUF` accesses that are no bus error (20_memory.md R54). -/
def ibufAccepts (p : Params) (a size : Nat) : Bool :=
  decide ((size = 1 ∨ size = 2 ∨ size = 4) ∧ a % size = 0 ∧ a + size ≤ p.ibufSize)

/-- The `IBUF` byte a host read finds: the byte last written, or the free byte of 93 I1 (log entry 8). -/
def hostByte (s : State) (a : Nat) : Byte := (readByte s.ibuf a).getD (Config.freeIbufByte s.resets a)

/-- The `n` bytes from `a` on that a host read finds. -/
def hostBytes (s : State) : Nat → Nat → List Byte
  | _, 0 => []
  | a, n + 1 => hostByte s a :: hostBytes s (a + 1) n

/-- The data a host read of `size` bytes at window offset `off` returns; none where it is a bus error
(20_memory.md R51, R53, R54). -/
def windowRead (off size : Nat) (s : State) : Option Word :=
  if off < 0x1000 then
    if size = 4 then (regAt off).bind (fun r => readReg r s) else none
  else if ibufAccepts s.params (off - 0x1000) size then some (leWord 32 (hostBytes s (off - 0x1000) size))
  else none

/-- What a host write of the low `size` bytes of `v` at window offset `off` does (20_memory.md R51, R53, R54). -/
def windowWrite (off size : Nat) (v : Word) (s : State) : Host.Outcome State Fault Refusal :=
  if off < 0x1000 then
    if size = 4 then
      match regAt off with
      | some r => writeReg r v s
      | none => .refused .busError
    else .refused .busError
  else if ibufAccepts s.params (off - 0x1000) size then
    .next (s.setIbuf (writeBytes s.ibuf (off - 0x1000) v size))
  else .refused .busError

/-- The host address reaches the block (20_memory.md R50; log entry 17). -/
abbrev InWindow (p : Params) (addr : Nat) : Prop := p.base ≤ addr ∧ addr < p.base + 8192

/-- Serves one event. An access outside the window changes nothing of the block (R50; log entry 6); a bus error ends
the run (93 I7; log entry 5); reset sets every piece of state to its reset value (R230). -/
def serve (e : HostEvent) (s : State) : Host.Outcome State Fault Refusal :=
  match e with
  | .read addr size =>
    if InWindow s.params addr then
      match windowRead (addr - s.params.base) size s with
      | some v => .next (s.setReply (.data size v))
      | none => .refused .busError
    else .next (s.setReply .elsewhere)
  | .write addr size v =>
    if InWindow s.params addr then
      mapNext (fun t => t.setReply .written) (windowWrite (addr - s.params.base) size v s)
    else .next (s.setReply .elsewhere)
  | .reset => .next (State.afterReset s.params s.pending (s.resets + 1))

/-- The port's next event, if there is one: served with the later ones still pending (20_memory.md R60). With nothing
pending the core has no step of its own (00_scope.md R7) and nothing changes. -/
def servePending (s : State) : Host.Outcome State Fault Refusal :=
  match s.pending with
  | [] => .next s
  | e :: es => serve e (s.setPending es)

/-- The write that issues a command word: 4 bytes at `BASE + 0x008` (30_encoding.md R79, R80). -/
def commandWrite (p : Params) (w : Word) : HostEvent := .write (p.base + regOffset .cmd) 4 w

end Sys2Proof.Machine
end

