-- ==== Sys2Proof/Machine/Step.lean ====
section
/-! DEFINITION. One step of the machine: the port serves its oldest pending event, whole (20_memory.md R57, R60;
70_reset_and_hazards.md R240). -/

namespace Sys2Proof.Machine

/-- One step; untimed (70_reset_and_hazards.md R243; log entry 12). -/
def step (s : State) : Host.Outcome State Fault Refusal := servePending s

/-- `s` with the write of a command word to `CMD` as the very next event: the block fetches nothing (10_state.md R21),
so a word is run by a host write (log entry 3). The word's bits from `nbits` up are 0. -/
def State.withFetchWord (s : State) (nbits w : Nat) : State :=
  s.setPending (commandWrite s.params ((BitVec.ofNat nbits w).setWidth 32) :: s.pending)

end Sys2Proof.Machine
end

