-- ==== Sys2Proof/Machine/Assembly.lean ====
section
/-! DEFINITION. The host assembly of 30_encoding.md R79 to R81: each operation as its bus transaction, each
pseudo-instruction as its expansion, for an instance with parameters `p`. -/

namespace Sys2Proof.Machine

/-- `WR <reg>, v` (R79). -/
def asmWr (p : Params) (r : Reg) (v : Word) : HostEvent := .write (p.base + regOffset r) 4 v

/-- `RD <reg>` (R79). -/
def asmRd (p : Params) (r : Reg) : HostEvent := .read (p.base + regOffset r) 4

/-- `WRB IBUF+a, v` (R79). -/
def asmWrb (p : Params) (a : Nat) (v : Byte) : HostEvent := .write (p.base + 0x1000 + a) 1 (v.setWidth 32)

/-- `WRH IBUF+a, v`, `a` even (R79). -/
def asmWrh (p : Params) (a : Nat) (v : BitVec 16) : HostEvent := .write (p.base + 0x1000 + a) 2 (v.setWidth 32)

/-- `WRW IBUF+a, v`, `a` a multiple of 4 (R79). -/
def asmWrw (p : Params) (a : Nat) (v : Word) : HostEvent := .write (p.base + 0x1000 + a) 4 v

/-- `RDB IBUF+a` (R79). -/
def asmRdb (p : Params) (a : Nat) : HostEvent := .read (p.base + 0x1000 + a) 1

/-- `RDH IBUF+a` (R79). -/
def asmRdh (p : Params) (a : Nat) : HostEvent := .read (p.base + 0x1000 + a) 2

/-- `RDW IBUF+a` (R79). -/
def asmRdw (p : Params) (a : Nat) : HostEvent := .read (p.base + 0x1000 + a) 4

/-- A bare command mnemonic: one `CMD` write of its word (R80). -/
def asmCommand (p : Params) (i : Instr) : HostEvent := asmWr p .cmd (encode i)

/-- `INIT32 s` (R81). -/
def asmInit32 (p : Params) (s : Word) : List HostEvent := [asmWr p .seed s, asmCommand p .init32]

/-- `INIT128 s` (R81). -/
def asmInit128 (p : Params) (s : Word) : List HostEvent := [asmWr p .seed s, asmCommand p .init128]

/-- `BLOCK32 k` (R81). -/
def asmBlock32 (p : Params) (k : Word) : List HostEvent := [asmWr p .kdata0 k, asmCommand p .block32]

/-- `BLOCK128 d0, d1, d2, d3` (R81). -/
def asmBlock128 (p : Params) (d0 d1 d2 d3 : Word) : List HostEvent :=
  [asmWr p .kdata0 d0, asmWr p .kdata1 d1, asmWr p .kdata2 d2, asmWr p .kdata3 d3, asmCommand p .block128]

/-- `FEED32 off, len` (R81). -/
def asmFeed32 (p : Params) (off len : Word) : List HostEvent :=
  [asmWr p .foff off, asmWr p .flen len, asmCommand p .feed32]

/-- `FEED128 off, len` (R81). -/
def asmFeed128 (p : Params) (off len : Word) : List HostEvent :=
  [asmWr p .foff off, asmWr p .flen len, asmCommand p .feed128]

end Sys2Proof.Machine
end

