-- ==== Sys2Proof/Safety.lean ====
section
/-! DEFINITION. What counts as a safe run, and the terms the statements use: the invariant of the machine, what each
command's context is, the readiness conditions of the input commands, and sequences of commands. -/

namespace Sys2Proof.Safety

open Sys2Proof.Machine

/-- The memory of `IBUF`: canonical, and nothing listed outside the buffer (20_memory.md R54). -/
abbrev IbufOk (s : State) : Prop := Memory.wf s.ibuf ∧ ∀ c ∈ s.ibuf, c.1 < s.params.ibufSize

/-- `LAST_ERR` holds a code of 60_exceptions.md R200 (6 to 15 are never written), and a nonzero one only once
`ERR_SEEN` is set (10_state.md R36). -/
abbrev ErrorsOk (s : State) : Prop := s.lastErr.toNat ≤ 5 ∧ (s.lastErr ≠ 0 → s.errSeen = true)

/-- A context's `nonstd` is set only after a tail and only under `TAIL_POLICY = REFERENCE` (10_state.md R23, R24). -/
abbrev NonstdOk (s : State) : Prop :=
  (s.ctx32.nonstd = true → s.ctx32.ts = true ∧ s.params.tailPolicy = .reference) ∧
  (s.ctx128.nonstd = true → s.ctx128.ts = true ∧ s.params.tailPolicy = .reference)

/-- A context in phase FINAL has its digest in its digest registers (10_state.md R33, R34, R36). -/
abbrev DigestsOk (s : State) : Prop :=
  (s.ctx32.final = true → s.dig32 = s.ctx32.h) ∧
  (s.ctx128.final = true →
    s.dig128_1 ++ s.dig128_0 = s.ctx128.h1 ∧ s.dig128_3 ++ s.dig128_2 = s.ctx128.h2)

/-- The invariant of the machine. -/
structure Inv (s : State) : Prop where
  params : s.params.Wf
  ibuf : IbufOk s
  errors : ErrorsOk s
  nonstd : NonstdOk s
  digests : DigestsOk s

/-- The commands of the 32-bit width (10_state.md R25: those that read or write `CTX32`). -/
def uses32 : Instr → Bool
  | .init32 => true
  | .block32 => true
  | .tail32 _ => true
  | .feed32 => true
  | .init128 => false
  | .block128 => false
  | .tail128 _ => false
  | .feed128 => false
  | .fin32 => true
  | .fin128 => false
  | .fmix32 => false
  | .fmix64 => false

/-- The commands of the 128-bit width. -/
def uses128 : Instr → Bool
  | .init32 => false
  | .block32 => false
  | .tail32 _ => false
  | .feed32 => false
  | .init128 => true
  | .block128 => true
  | .tail128 _ => true
  | .feed128 => true
  | .fin32 => false
  | .fin128 => true
  | .fmix32 => false
  | .fmix64 => false

/-- The bytes an input command of the 32-bit width adds (60_exceptions.md R207); none for the other commands. -/
def inputBytes32 (s : State) : Instr → Option Nat
  | .init32 => none
  | .block32 => some 4
  | .tail32 n => some n.toNat
  | .feed32 => some s.flen.toNat
  | .init128 => none
  | .block128 => none
  | .tail128 _ => none
  | .feed128 => none
  | .fin32 => none
  | .fin128 => none
  | .fmix32 => none
  | .fmix64 => none

/-- The bytes an input command of the 128-bit width adds (60_exceptions.md R207); none for the other commands. -/
def inputBytes128 (s : State) : Instr → Option Nat
  | .init32 => none
  | .block32 => none
  | .tail32 _ => none
  | .feed32 => none
  | .init128 => none
  | .block128 => some 16
  | .tail128 n => some n.toNat
  | .feed128 => some s.flen.toNat
  | .fin32 => none
  | .fin128 => none
  | .fmix32 => none
  | .fmix64 => none

/-- `CTX32` may take an input of `nbytes` bytes: phase ABSORB, no tail before it under FAULT, no length overflow
(60_exceptions.md R206). -/
abbrev Ready32 (s : State) (nbytes : Nat) : Prop :=
  s.ctx32.final = false ∧
  (s.ctx32.ts = true → nbytes = 0 ∨ s.params.tailPolicy = .reference) ∧
  s.ctx32.len.toNat + nbytes ≤ 4294967295

/-- `CTX128` may take an input of `nbytes` bytes (60_exceptions.md R206). -/
abbrev Ready128 (s : State) (nbytes : Nat) : Prop :=
  s.ctx128.final = false ∧
  (s.ctx128.ts = true → nbytes = 0 ∨ s.params.tailPolicy = .reference) ∧
  s.ctx128.len.toNat + nbytes ≤ 4294967295

/-- The range a FEED names lies in the buffer (60_exceptions.md R203). -/
abbrev FeedInRange (s : State) : Prop := s.foff.toNat + s.flen.toNat ≤ s.params.ibufSize

/-- The host has written every byte of the range a FEED names since reset (20_memory.md R55, 60_exceptions.md R211). -/
abbrev FeedWritten (s : State) : Prop :=
  ∀ i, i < s.flen.toNat → (readByte s.ibuf (s.foff.toNat + i)).isSome = true

/-- The `IBUF` byte a FEED reads at offset `a`, on states where it has been written. -/
def ibufByte (s : State) (a : Nat) : Byte := (readByte s.ibuf a).getD 0

/-- The staging area filled from a byte list, byte `j` at `S(j)`, 0 past its end (00_scope.md R14). -/
def stage (bs : List Byte) (s : State) : State :=
  { s with
    kdata0 := leWord 32 (bs.take 4)
    kdata1 := leWord 32 ((bs.drop 4).take 4)
    kdata2 := leWord 32 ((bs.drop 8).take 4)
    kdata3 := leWord 32 ((bs.drop 12).take 4) }

/-- Goes on from a next state. -/
def andThen (o : Host.Outcome State Fault Refusal) (k : State → Host.Outcome State Fault Refusal) :
    Host.Outcome State Fault Refusal :=
  match o with
  | .next s => k s
  | .fault r => .fault r
  | .refused r => .refused r

/-- The command sequence of 40_murmur32_mixer.md R116: for each of `nb` words its staging and BLOCK32, then the staging
of the remaining bytes and TAIL32 of their count, if there are any. -/
def blocksThenTail32 : Nat → List Byte → State → Host.Outcome State Fault Refusal
  | 0, bs, s => if bs.length = 0 then .next s else exec (.tail32 (BitVec.ofNat 4 bs.length)) (stage bs s)
  | nb + 1, bs, s => andThen (exec .block32 (stage (bs.take 4) s)) (blocksThenTail32 nb (bs.drop 4))

/-- The command sequence of 41_murmur128_mixer.md R146. -/
def blocksThenTail128 : Nat → List Byte → State → Host.Outcome State Fault Refusal
  | 0, bs, s => if bs.length = 0 then .next s else exec (.tail128 (BitVec.ofNat 4 bs.length)) (stage bs s)
  | nb + 1, bs, s => andThen (exec .block128 (stage (bs.take 16) s)) (blocksThenTail128 nb (bs.drop 16))

/-- `Feeds32 p c bss c'`: successive successful FEED32 commands of the byte strings `bss`, on an instance with parameters
`p`, take `CTX32` from `c` to `c'`. Between two of them the host may do anything that leaves `CTX32` as it is. -/
inductive Feeds32 (p : Params) : Ctx32 → List (List Byte) → Ctx32 → Prop where
  | none (c : Ctx32) : Feeds32 p c [] c
  | feed (s t : State) (bs : List Byte) (bss : List (List Byte)) (c' : Ctx32)
      (hp : s.params = p) (hb : feedBytes s = some bs)
      (he : exec .feed32 s = .next t) (ok : t.lastErr = 0)
      (rest : Feeds32 p t.ctx32 bss c') : Feeds32 p s.ctx32 (bs :: bss) c'

/-- The same of FEED128 and `CTX128`. -/
inductive Feeds128 (p : Params) : Ctx128 → List (List Byte) → Ctx128 → Prop where
  | none (c : Ctx128) : Feeds128 p c [] c
  | feed (s t : State) (bs : List Byte) (bss : List (List Byte)) (c' : Ctx128)
      (hp : s.params = p) (hb : feedBytes s = some bs)
      (he : exec .feed128 s = .next t) (ok : t.lastErr = 0)
      (rest : Feeds128 p t.ctx128 bss c') : Feeds128 p s.ctx128 (bs :: bss) c'

/-- The state with everything of the 128-bit width replaced: `CTX128` and its digest registers (10_state.md R25). -/
def with128 (s : State) (c : Ctx128) (d0 d1 d2 d3 : Word) : State :=
  { s with ctx128 := c, dig128_0 := d0, dig128_1 := d1, dig128_2 := d2, dig128_3 := d3 }

/-- The state with everything of the 32-bit width replaced: `CTX32` and `DIG32` (10_state.md R25). -/
def with32 (s : State) (c : Ctx32) (d : Word) : State := { s with ctx32 := c, dig32 := d }

/-- A failed command's state (60_exceptions.md R205): the code in `LAST_ERR`, `ERR_SEEN` set, nothing else changed. -/
def failWith (code : BitVec 4) (s : State) : State := { s with lastErr := code, errSeen := true }

/-- The port's next event is `e`. -/
def HeadIs (s : State) (e : HostEvent) : Prop := ∃ rest, s.pending = e :: rest

/-- The port's next event issues a word that decodes to the command `i`. -/
def HeadCommand (s : State) (i : Instr) : Prop :=
  ∃ w rest, s.pending = .write (s.params.base + 0x008) 4 w :: rest ∧ decode w = .command i

/-- A 32-bit read at window offset `off` returns `val` of the state and changes nothing (20_memory.md R56). -/
def ReadsAs (off : Nat) (val : State → Word) : Prop :=
  ∀ (s : State) (rest : List HostEvent), s.pending = .read (s.params.base + off) 4 :: rest →
    step s = .next { s with pending := rest, reply := .data 4 (val s) }

/-- A 32-bit write at window offset `off` changes the state as `upd` says and nothing else (10_state.md R42). -/
def WritesAs (off : Nat) (upd : Word → State → State) : Prop :=
  ∀ (s : State) (v : Word) (rest : List HostEvent), s.pending = .write (s.params.base + off) 4 v :: rest →
    step s = .next { upd v s with pending := rest, reply := .written }

/-- A 32-bit access at window offset `off` in the given direction is a bus error (20_memory.md R53; 93 I7). -/
def ReadIsBusError (off size : Nat) : Prop :=
  ∀ (s : State) (rest : List HostEvent), s.pending = .read (s.params.base + off) size :: rest →
    step s = .refused .busError

/-- A write at window offset `off` is a bus error (20_memory.md R53; 93 I7). -/
def WriteIsBusError (off size : Nat) : Prop :=
  ∀ (s : State) (v : Word) (rest : List HostEvent), s.pending = .write (s.params.base + off) size v :: rest →
    step s = .refused .busError

/-- `k` steps. -/
def steps : Nat → State → Host.Outcome State Fault Refusal
  | 0, s => .next s
  | k + 1, s => andThen (step s) (steps k)

/-- `MemRead(a, 4)` (00_scope.md R13). -/
def memRead32 (s : State) (a : Nat) : Word :=
  ibufByte s (a + 3) ++ ibufByte s (a + 2) ++ ibufByte s (a + 1) ++ ibufByte s a

/-- `MemRead(a, 8)` (00_scope.md R13). -/
def memRead64 (s : State) (a : Nat) : DWord := memRead32 s (a + 4) ++ memRead32 s a

/-- The tail word of the `r` bytes from `IBUF` offset `a` on: byte `j` at bit `8j` (40_murmur32_mixer.md R104). -/
def tailAt32 (s : State) (a r : Nat) : Word :=
  (List.range r).foldl (fun k j => k ||| ((ibufByte s (a + j)).setWidth 32 <<< (8 * j))) 0

/-- The same in 64 bits (41_murmur128_mixer.md R134). -/
def tailAt64 (s : State) (a r : Nat) : DWord :=
  (List.range r).foldl (fun k j => k ||| ((ibufByte s (a + j)).setWidth 64 <<< (8 * j))) 0

/-- The accumulator after FEED32's loops over `L` bytes from `off` on, written as R115 writes them. -/
def feedLoop32 (s : State) (off L : Nat) : Word :=
  let h := (List.range (L / 4)).foldl (fun h i => block32 h (memRead32 s (off + 4 * i))) s.ctx32.h
  if 0 < L % 4 then h ^^^ mixk32 (tailAt32 s (off + 4 * (L / 4)) (L % 4)) else h

/-- The accumulators after FEED128's loops over `L` bytes from `off` on, written as R145 writes them. -/
def feedLoop128 (s : State) (off L : Nat) : DWord × DWord :=
  let h := (List.range (L / 16)).foldl
    (fun h i => block128 h (memRead64 s (off + 16 * i)) (memRead64 s (off + 16 * i + 8))) (s.ctx128.h1, s.ctx128.h2)
  let a := off + 16 * (L / 16)
  if 0 < L % 16 then
    (h.1 ^^^ mixk1 (tailAt64 s a (min (L % 16) 8)), h.2 ^^^ mixk2 (tailAt64 s (a + 8) (L % 16 - 8)))
  else h

/-- The 16 staging bytes as one number, `S(0)` in bits 7:0 (00_scope.md R14). -/
def stagingArea (s : State) : BitVec 128 := s.kdata3 ++ s.kdata2 ++ s.kdata1 ++ s.kdata0

end Sys2Proof.Safety
end

