-- ==== Sys2Proof/Certificates/Slice0/Obligations.lean ====
section
/-! DEFINITION. The statements for the provers, from the numbered rules of spec/. In products and sums the spec's
constants stand first (`c1 * k` for `k * c1`): the wrapping result is the same. -/

open Sys2Proof Sys2Proof.Machine Sys2Proof.Safety

/-- O1 (R82, R74): words written out from the spec's opcode map, and its illegal examples. -/
def Obligations.SpecWordsDecode : Prop :=
  decode 0x00000001 = .command .init32 ∧ decode 0x00000011 = .command .init128 ∧
  decode 0x00000002 = .command .block32 ∧ decode 0x00000012 = .command .block128 ∧
  decode 0x00000303 = .command (.tail32 3) ∧ decode 0x00000F13 = .command (.tail128 15) ∧
  decode 0x00000513 = .command (.tail128 5) ∧
  decode 0x00000004 = .command .feed32 ∧ decode 0x00000014 = .command .feed128 ∧
  decode 0x00000005 = .command .fin32 ∧ decode 0x00000015 = .command .fin128 ∧
  decode 0x00000006 = .command .fmix32 ∧ decode 0x00000016 = .command .fmix64 ∧
  decode 0x00000403 = .illegal .tailCount ∧ decode 0x00000115 = .illegal .countNotZero ∧
  decode 0x00000007 = .illegal .reservedOp ∧ decode 0x00000021 = .illegal .reservedBits

/-- O2: every command of the map, with every tail count it admits, is read back from its own word. -/
def Obligations.DecodeInvertsEncode : Prop :=
  ∀ i : Instr, i.wellFormed = true → decode (encode i) = .command i

/-- O3: a word that decodes to a command is that command's one word, and the command is one of the map. -/
def Obligations.EncodeInvertsDecode : Prop :=
  ∀ (w : Word) (i : Instr), decode w = .command i → i.wellFormed = true ∧ encode i = w

/-- O4 (R76): the illegal words, by their fields as numbers, are exactly these, and each raises `ILLEGAL_COMMAND`. -/
def Obligations.IllegalWordsAreExactlyThese : Prop :=
  ∀ (w : Word) (s : State),
    let op := w.toNat % 16
    let wide := w.toNat / 16 % 2
    let rz0 := w.toNat / 32 % 8
    let n := w.toNat / 256 % 16
    let rz1 := w.toNat / 4096
    ((op = 0 ∨ 7 ≤ op ∨ rz0 ≠ 0 ∨ rz1 ≠ 0 ∨ (n ≠ 0 ∧ op ≠ 3) ∨
        (op = 3 ∧ wide = 0 ∧ (n = 0 ∨ 4 ≤ n)) ∨ (op = 3 ∧ wide = 1 ∧ n = 0)) →
      issueCommand w s = .next (failWith 5 s)) ∧
    (¬(op = 0 ∨ 7 ≤ op ∨ rz0 ≠ 0 ∨ rz1 ≠ 0 ∨ (n ≠ 0 ∧ op ≠ 3) ∨
        (op = 3 ∧ wide = 0 ∧ (n = 0 ∨ 4 ≤ n)) ∨ (op = 3 ∧ wide = 1 ∧ n = 0)) →
      ∃ i, decode w = .command i ∧ i.wellFormed = true ∧ issueCommand w s = exec i s)

/-- O5: a step runs the decoded command. When the port's next event writes the word `w` to `CMD` and `w` decodes
to `i`, the step is `exec i` on the state with that event taken from the port, and the write is acknowledged; where `w`
is illegal the step reports it; a read of `CMD` is a bus error. The acknowledgement in `reply` is the model's own record
(log entry 4), and that a bus error is the refusal of the step is read from 93 I7 (log entry 5). -/
def Obligations.StepRunsDecodedCommand : Prop :=
  (∀ (s : State) (w : Word) (i : Instr) (rest : List HostEvent), decode w = .command i →
    s.pending = .write (s.params.base + 0x008) 4 w :: rest →
    step s =
      match exec i { s with pending := rest } with
      | .next t => .next { t with reply := .written }
      | .fault f => .fault f
      | .refused r => .refused r) ∧
  (∀ (s : State) (w : Word) (r : IllegalReason) (rest : List HostEvent), decode w = .illegal r →
    s.pending = .write (s.params.base + 0x008) 4 w :: rest →
    step s = .next { failWith 5 s with pending := rest, reply := .written }) ∧
  ReadIsBusError 0x008 4

/-- O6 (R201): a `CMD` write of an `ILLEGAL` word executes nothing and reports code 5. The `reply` is the model's own
record (log entry 4). -/
def Obligations.IllegalCommandIsReported : Prop :=
  ∀ (s : State) (w : Word) (r : IllegalReason) (rest : List HostEvent), decode w = .illegal r →
    s.pending = .write (s.params.base + 0x008) 4 w :: rest →
    step s = .next { s with pending := rest, reply := .written, lastErr := 5, errSeen := true }

/-- O7 (R100): the word of INIT32, and INIT32 in every state. -/
def Obligations.Init32Result : Prop :=
  decode 0x00000001 = .command .init32 ∧
  ∀ s : State, exec .init32 s = .next
    { s with
      ctx32 := { h := if s.params.seed32Compat = true then 0 else s.seed
                 len := 0, final := false, ts := false, nonstd := false }
      lastErr := 0 }

/-- O8 (R130): the word of INIT128, and INIT128 in every state, whatever `SEED32_COMPAT` is. -/
def Obligations.Init128Result : Prop :=
  decode 0x00000011 = .command .init128 ∧
  ∀ s : State, exec .init128 s = .next
    { s with
      ctx128 := { h1 := BitVec.ofNat 64 s.seed.toNat, h2 := BitVec.ofNat 64 s.seed.toNat
                  len := 0, final := false, ts := false, nonstd := false }
      lastErr := 0 }

/-- O9 (R105, with R102 and R103): the word of BLOCK32, its result and its errors in priority order. -/
def Obligations.Block32Result : Prop :=
  decode 0x00000002 = .command .block32 ∧ mixk32 0 = 0 ∧
  ∀ s : State,
    (Ready32 s 4 → exec .block32 s = .next
      { s with
        ctx32 :=
          { h := 0xe6546b64 + 5 * (s.ctx32.h ^^^ 0x1b873593 * (0xcc9e2d51 * s.kdata0).rotateLeft 15).rotateLeft 13
            len := BitVec.ofNat 32 (s.ctx32.len.toNat + 4)
            final := false
            ts := s.ctx32.ts
            nonstd := s.ctx32.nonstd || s.ctx32.ts }
        lastErr := 0 }) ∧
    (s.ctx32.final = true → exec .block32 s = .next (failWith 2 s)) ∧
    (s.ctx32.final = false → s.ctx32.ts = true → s.params.tailPolicy = .fault →
      exec .block32 s = .next (failWith 3 s)) ∧
    (s.ctx32.final = false → (s.ctx32.ts = true → s.params.tailPolicy = .reference) →
      4294967295 < s.ctx32.len.toNat + 4 → exec .block32 s = .next (failWith 4 s))

/-- O10 (R110): TAIL32 n, its words, its result and its errors in priority order. The tail word is the staging word's
low n bytes; the bytes above are ignored. -/
def Obligations.Tail32Result : Prop :=
  (decode 0x00000103 = .command (.tail32 1) ∧ decode 0x00000203 = .command (.tail32 2) ∧
    decode 0x00000303 = .command (.tail32 3)) ∧
  ∀ (s : State) (n : BitVec 4),
    (1 ≤ n.toNat → n.toNat ≤ 3 → Ready32 s n.toNat → exec (.tail32 n) s = .next
      { s with
        ctx32 :=
          { h := s.ctx32.h ^^^
              0x1b873593 * (0xcc9e2d51 * BitVec.ofNat 32 (s.kdata0.toNat % 256 ^ n.toNat)).rotateLeft 15
            len := BitVec.ofNat 32 (s.ctx32.len.toNat + n.toNat)
            final := false
            ts := true
            nonstd := s.ctx32.nonstd || s.ctx32.ts }
        lastErr := 0 }) ∧
    (n.toNat = 0 ∨ 3 < n.toNat → exec (.tail32 n) s = .next (failWith 5 s)) ∧
    (1 ≤ n.toNat → n.toNat ≤ 3 → s.ctx32.final = true → exec (.tail32 n) s = .next (failWith 2 s)) ∧
    (1 ≤ n.toNat → n.toNat ≤ 3 → s.ctx32.final = false → s.ctx32.ts = true → s.params.tailPolicy = .fault →
      exec (.tail32 n) s = .next (failWith 3 s)) ∧
    (1 ≤ n.toNat → n.toNat ≤ 3 → s.ctx32.final = false →
      (s.ctx32.ts = true → s.params.tailPolicy = .reference) →
      4294967295 < s.ctx32.len.toNat + n.toNat → exec (.tail32 n) s = .next (failWith 4 s))

/-- O11 (R115): FEED32 as its pseudocode's loops say, on a range the host has written, and its errors in priority
order. -/
def Obligations.Feed32Result : Prop :=
  decode 0x00000004 = .command .feed32 ∧
  ∀ s : State,
    (Ready32 s s.flen.toNat → FeedInRange s → FeedWritten s → exec .feed32 s = .next
      { s with
        ctx32 :=
          { h := feedLoop32 s s.foff.toNat s.flen.toNat
            len := BitVec.ofNat 32 (s.ctx32.len.toNat + s.flen.toNat)
            final := false
            ts := s.ctx32.ts || decide (0 < s.flen.toNat % 4)
            nonstd := s.ctx32.nonstd || (s.ctx32.ts && decide (0 < s.flen.toNat)) }
        lastErr := 0 }) ∧
    (s.ctx32.final = true → exec .feed32 s = .next (failWith 2 s)) ∧
    (s.ctx32.final = false → s.params.ibufSize < s.foff.toNat + s.flen.toNat →
      exec .feed32 s = .next (failWith 1 s)) ∧
    (s.ctx32.final = false → FeedInRange s → 0 < s.flen.toNat → s.ctx32.ts = true →
      s.params.tailPolicy = .fault → exec .feed32 s = .next (failWith 3 s)) ∧
    (s.ctx32.final = false → FeedInRange s →
      (s.ctx32.ts = true → s.flen.toNat = 0 ∨ s.params.tailPolicy = .reference) →
      4294967295 < s.ctx32.len.toNat + s.flen.toNat → exec .feed32 s = .next (failWith 4 s))

/-- O12 (R135, with R132 and R133): BLOCK128, its word, its four lines in order, and its errors in priority order. -/
def Obligations.Block128Result : Prop :=
  decode 0x00000012 = .command .block128 ∧ mixk1 0 = 0 ∧ mixk2 0 = 0 ∧
  ∀ s : State,
    (Ready128 s 16 →
      let k1 : DWord := s.kdata1 ++ s.kdata0
      let k2 : DWord := s.kdata3 ++ s.kdata2
      let m1 := 0x4cf5ad432745937f * (0x87c37b91114253d5 * k1).rotateLeft 31
      let m2 := 0x87c37b91114253d5 * (0x4cf5ad432745937f * k2).rotateLeft 33
      let h1 := 0x52dce729 + 5 * ((s.ctx128.h1 ^^^ m1).rotateLeft 27 + s.ctx128.h2)
      let h2 := 0x38495ab5 + 5 * ((s.ctx128.h2 ^^^ m2).rotateLeft 31 + h1)
      exec .block128 s = .next
        { s with
          ctx128 :=
            { h1 := h1
              h2 := h2
              len := BitVec.ofNat 32 (s.ctx128.len.toNat + 16)
              final := false
              ts := s.ctx128.ts
              nonstd := s.ctx128.nonstd || s.ctx128.ts }
          lastErr := 0 }) ∧
    (s.ctx128.final = true → exec .block128 s = .next (failWith 2 s)) ∧
    (s.ctx128.final = false → s.ctx128.ts = true → s.params.tailPolicy = .fault →
      exec .block128 s = .next (failWith 3 s)) ∧
    (s.ctx128.final = false → (s.ctx128.ts = true → s.params.tailPolicy = .reference) →
      4294967295 < s.ctx128.len.toNat + 16 → exec .block128 s = .next (failWith 4 s))

/-- O13 (R140): TAIL128 n, its words, its result and its errors in priority order. The tail words are the staging area's
low n bytes; the bytes above are ignored. -/
def Obligations.Tail128Result : Prop :=
  (∀ n : BitVec 4, 1 ≤ n.toNat → decode (0x00000013 ||| (n.setWidth 32 <<< 8)) = .command (.tail128 n)) ∧
  ∀ (s : State) (n : BitVec 4),
    (1 ≤ n.toNat → Ready128 s n.toNat →
      let tail := BitVec.ofNat 128 ((stagingArea s).toNat % 256 ^ n.toNat)
      let k1 : DWord := tail.extractLsb' 0 64
      let k2 : DWord := tail.extractLsb' 64 64
      exec (.tail128 n) s = .next
        { s with
          ctx128 :=
            { h1 := s.ctx128.h1 ^^^ 0x4cf5ad432745937f * (0x87c37b91114253d5 * k1).rotateLeft 31
              h2 := s.ctx128.h2 ^^^ 0x87c37b91114253d5 * (0x4cf5ad432745937f * k2).rotateLeft 33
              len := BitVec.ofNat 32 (s.ctx128.len.toNat + n.toNat)
              final := false
              ts := true
              nonstd := s.ctx128.nonstd || s.ctx128.ts }
          lastErr := 0 }) ∧
    (n.toNat = 0 → exec (.tail128 n) s = .next (failWith 5 s)) ∧
    (1 ≤ n.toNat → s.ctx128.final = true → exec (.tail128 n) s = .next (failWith 2 s)) ∧
    (1 ≤ n.toNat → s.ctx128.final = false → s.ctx128.ts = true → s.params.tailPolicy = .fault →
      exec (.tail128 n) s = .next (failWith 3 s)) ∧
    (1 ≤ n.toNat → s.ctx128.final = false → (s.ctx128.ts = true → s.params.tailPolicy = .reference) →
      4294967295 < s.ctx128.len.toNat + n.toNat → exec (.tail128 n) s = .next (failWith 4 s))

/-- O14 (R145): FEED128 as its pseudocode's loops say, on a range the host has written, and its errors in priority
order. -/
def Obligations.Feed128Result : Prop :=
  decode 0x00000014 = .command .feed128 ∧
  ∀ s : State,
    (Ready128 s s.flen.toNat → FeedInRange s → FeedWritten s → exec .feed128 s = .next
      { s with
        ctx128 :=
          { h1 := (feedLoop128 s s.foff.toNat s.flen.toNat).1
            h2 := (feedLoop128 s s.foff.toNat s.flen.toNat).2
            len := BitVec.ofNat 32 (s.ctx128.len.toNat + s.flen.toNat)
            final := false
            ts := s.ctx128.ts || decide (0 < s.flen.toNat % 16)
            nonstd := s.ctx128.nonstd || (s.ctx128.ts && decide (0 < s.flen.toNat)) }
        lastErr := 0 }) ∧
    (s.ctx128.final = true → exec .feed128 s = .next (failWith 2 s)) ∧
    (s.ctx128.final = false → s.params.ibufSize < s.foff.toNat + s.flen.toNat →
      exec .feed128 s = .next (failWith 1 s)) ∧
    (s.ctx128.final = false → FeedInRange s → 0 < s.flen.toNat → s.ctx128.ts = true →
      s.params.tailPolicy = .fault → exec .feed128 s = .next (failWith 3 s)) ∧
    (s.ctx128.final = false → FeedInRange s →
      (s.ctx128.ts = true → s.flen.toNat = 0 ∨ s.params.tailPolicy = .reference) →
      4294967295 < s.ctx128.len.toNat + s.flen.toNat → exec .feed128 s = .next (failWith 4 s))

/-- O15 (R165, R161): the word of FIN32, FIN32 in phase ABSORB, and its error in phase FINAL. -/
def Obligations.Fin32Result : Prop :=
  decode 0x00000005 = .command .fin32 ∧
  ∀ s : State,
    (s.ctx32.final = false →
      let k := s.ctx32.h ^^^ s.ctx32.len
      let k := 0x85ebca6b * (k ^^^ (k >>> 16))
      let k := 0xc2b2ae35 * (k ^^^ (k >>> 13))
      let k := k ^^^ (k >>> 16)
      exec .fin32 s = .next
        { s with ctx32 := { s.ctx32 with h := k, final := true }, dig32 := k, lastErr := 0 }) ∧
    (s.ctx32.final = true → exec .fin32 s = .next (failWith 2 s))

/-- O16 (R167, R168, R162): the word of FIN128, FIN128 in phase ABSORB, with the length zero-extended, and its error in
phase FINAL. -/
def Obligations.Fin128Result : Prop :=
  decode 0x00000015 = .command .fin128 ∧
  ∀ s : State,
    (s.ctx128.final = false →
      let f := fun k : DWord =>
        let k := 0xff51afd7ed558ccd * (k ^^^ (k >>> 33))
        let k := 0xc4ceb9fe1a85ec53 * (k ^^^ (k >>> 33))
        k ^^^ (k >>> 33)
      let len := BitVec.ofNat 64 s.ctx128.len.toNat
      let a1 := (s.ctx128.h1 ^^^ len) + (s.ctx128.h2 ^^^ len)
      let a2 := (s.ctx128.h2 ^^^ len) + a1
      let h1 := f a1 + f a2
      let h2 := f a2 + h1
      exec .fin128 s = .next
        { s with
          ctx128 := { s.ctx128 with h1 := h1, h2 := h2, final := true }
          dig128_0 := BitVec.ofNat 32 h1.toNat
          dig128_1 := BitVec.ofNat 32 (h1.toNat / 4294967296)
          dig128_2 := BitVec.ofNat 32 h2.toNat
          dig128_3 := BitVec.ofNat 32 (h2.toNat / 4294967296)
          lastErr := 0 }) ∧
    (s.ctx128.final = true → exec .fin128 s = .next (failWith 2 s))

/-- O17 (R170, R161): the word of FMIX32, and FMIX32 in every state. -/
def Obligations.Fmix32Result : Prop :=
  decode 0x00000006 = .command .fmix32 ∧
  ∀ s : State,
    let k := s.kdata0
    let k := 0x85ebca6b * (k ^^^ (k >>> 16))
    let k := 0xc2b2ae35 * (k ^^^ (k >>> 13))
    exec .fmix32 s = .next { s with kdata0 := k ^^^ (k >>> 16), lastErr := 0 }

/-- O18 (R175, R162): the word of FMIX64, and FMIX64 in every state. -/
def Obligations.Fmix64Result : Prop :=
  decode 0x00000016 = .command .fmix64 ∧
  ∀ s : State,
    let k : DWord := s.kdata1 ++ s.kdata0
    let k := 0xff51afd7ed558ccd * (k ^^^ (k >>> 33))
    let k := 0xc4ceb9fe1a85ec53 * (k ^^^ (k >>> 33))
    let v := k ^^^ (k >>> 33)
    exec .fmix64 s = .next
      { s with
        kdata0 := BitVec.ofNat 32 v.toNat
        kdata1 := BitVec.ofNat 32 (v.toNat / 4294967296)
        lastErr := 0 }

/-- O19 (R206): an illegal word is reported first, in every phase; then, over all commands of the map, the first failing
check is the one reported, in the order of the admission function, and INIT and FMIX fail no check. -/
def Obligations.AdmissionChecksInOrder : Prop :=
  (∀ (s : State) (w : Word) (r : IllegalReason), decode w = .illegal r →
    issueCommand w s = .next (failWith 5 s)) ∧
  ∀ (s : State) (i : Instr), i.wellFormed = true →
    (s.ctx32.final = true → i = .fin32 ∨ (inputBytes32 s i).isSome = true → exec i s = .next (failWith 2 s)) ∧
    (s.ctx128.final = true → i = .fin128 ∨ (inputBytes128 s i).isSome = true → exec i s = .next (failWith 2 s)) ∧
    ((i = .feed32 ∧ s.ctx32.final = false) ∨ (i = .feed128 ∧ s.ctx128.final = false) →
      s.params.ibufSize < s.foff.toNat + s.flen.toNat → exec i s = .next (failWith 1 s)) ∧
    (∀ n, inputBytes32 s i = some n → s.ctx32.final = false → (i = .feed32 → FeedInRange s) →
      (0 < n → s.ctx32.ts = true → s.params.tailPolicy = .fault → exec i s = .next (failWith 3 s)) ∧
      ((s.ctx32.ts = true → n = 0 ∨ s.params.tailPolicy = .reference) →
        4294967295 < s.ctx32.len.toNat + n → exec i s = .next (failWith 4 s))) ∧
    (∀ n, inputBytes128 s i = some n → s.ctx128.final = false → (i = .feed128 → FeedInRange s) →
      (0 < n → s.ctx128.ts = true → s.params.tailPolicy = .fault → exec i s = .next (failWith 3 s)) ∧
      ((s.ctx128.ts = true → n = 0 ∨ s.params.tailPolicy = .reference) →
        4294967295 < s.ctx128.len.toNat + n → exec i s = .next (failWith 4 s))) ∧
    (i = .init32 ∨ i = .init128 ∨ i = .fmix32 ∨ i = .fmix64 → ∃ t, exec i s = .next t ∧ t.lastErr = 0)

/-- O20 (R205): a command that goes on either succeeded, with `LAST_ERR` 0 and `ERR_SEEN` as it was, or failed with a
code from 1 to 5 and changed nothing but the two error fields; and only reset clears `ERR_SEEN`. -/
def Obligations.CommandSucceedsOrOnlyReports : Prop :=
  (∀ (i : Instr) (s t : State), exec i s = .next t →
    (t.lastErr = 0 ∧ t.errSeen = s.errSeen) ∨
    ∃ code : BitVec 4, 1 ≤ code.toNat ∧ code.toNat ≤ 5 ∧ t = failWith code s) ∧
  (∀ s t : State, step s = .next t → s.errSeen = true → t.errSeen = true ∨ HeadIs s .reset)

/-- O21 (R209): the command after a failed one runs as if the failed one had never been issued, except that `ERR_SEEN`
stays 1. -/
def Obligations.FailedCommandLeavesNoTrace : Prop :=
  ∀ (w w' : Word) (s t : State), issueCommand w s = .next t → t.lastErr ≠ 0 →
    issueCommand w' t = mapNext (fun u => { u with errSeen := true }) (issueCommand w' s)

/-- O22 (R211): an admitted FEED of a range with a byte the host has not written since reset is the model fault, and
a FEED of a wholly written range is not. -/
def Obligations.UnwrittenFeedFaults : Prop :=
  ∀ s : State, FeedInRange s →
    (Ready32 s s.flen.toNat → (exec .feed32 s = .fault .uninitialisedIbuf ↔ ¬ FeedWritten s)) ∧
    (Ready128 s s.flen.toNat → (exec .feed128 s = .fault .uninitialisedIbuf ↔ ¬ FeedWritten s))

/-- O23: every command goes on to a next state, but for an admitted FEED of a range not wholly written. -/
def Obligations.OnlyUnwrittenFeedStops : Prop :=
  ∀ (i : Instr) (s : State),
    (∃ t, exec i s = .next t) ∨
    (exec i s = .fault .uninitialisedIbuf ∧ ¬ FeedWritten s ∧
      ((i = .feed32 ∧ Ready32 s s.flen.toNat ∧ FeedInRange s) ∨
        (i = .feed128 ∧ Ready128 s s.flen.toNat ∧ FeedInRange s)))

/-- O24 (R25): no command of one width (and neither FMIX) reads or writes the other context, its digest registers or
its length: with them replaced the command does the same and leaves the replacement. -/
def Obligations.ContextsAreIndependent : Prop :=
  (∀ (i : Instr) (s : State) (c : Ctx128) (d0 d1 d2 d3 : Word), uses128 i = false →
    exec i (with128 s c d0 d1 d2 d3) = mapNext (fun t => with128 t c d0 d1 d2 d3) (exec i s)) ∧
  (∀ (i : Instr) (s : State) (c : Ctx32) (d : Word), uses32 i = false →
    exec i (with32 s c d) = mapNext (fun t => with32 t c d) (exec i s))

/-- O25: a step changes a context only by a reset or by a command of that context's width. -/
def Obligations.ContextChangesOnlyByItsCommands : Prop :=
  ∀ s t : State, step s = .next t →
    (t.ctx32 ≠ s.ctx32 → HeadIs s .reset ∨ ∃ i, uses32 i = true ∧ HeadCommand s i) ∧
    (t.ctx128 ≠ s.ctx128 → HeadIs s .reset ∨ ∃ i, uses128 i = true ∧ HeadCommand s i)

/-- O26 (R27): a context in ABSORB never answers `MISUSE_FINALIZED` and FIN takes it to FINAL; a context in FINAL
rejects BLOCK, TAIL, FEED and FIN with it; only INIT of the width or reset takes it back. -/
def Obligations.PhaseRules : Prop :=
  (∀ (i : Instr) (s t : State), exec i s = .next t →
    (s.ctx32.final = false → uses32 i = true → t.lastErr ≠ 2) ∧
    (s.ctx128.final = false → uses128 i = true → t.lastErr ≠ 2)) ∧
  (∀ s : State,
    (s.ctx32.final = false → ∃ t, exec .fin32 s = .next t ∧ t.ctx32.final = true) ∧
    (s.ctx128.final = false → ∃ t, exec .fin128 s = .next t ∧ t.ctx128.final = true)) ∧
  (∀ (i : Instr) (s : State), i.wellFormed = true →
    (s.ctx32.final = true → uses32 i = true → i ≠ .init32 → exec i s = .next (failWith 2 s)) ∧
    (s.ctx128.final = true → uses128 i = true → i ≠ .init128 → exec i s = .next (failWith 2 s))) ∧
  (∀ s t : State, step s = .next t →
    (s.ctx32.final = true → t.ctx32.final = true ∨ HeadIs s .reset ∨ HeadCommand s .init32) ∧
    (s.ctx128.final = true → t.ctx128.final = true ∨ HeadIs s .reset ∨ HeadCommand s .init128))

/-- O27 (R28): what a successful command leaves in `ts` and `nonstd`, and that only INIT of the width or reset clears
them. -/
def Obligations.TailSeenAndNonstdBits : Prop :=
  (∀ (i : Instr) (s t : State), exec i s = .next t → t.lastErr = 0 →
    (t.ctx32.ts = true ↔ i ≠ .init32 ∧
      (s.ctx32.ts = true ∨ (∃ n, i = .tail32 n) ∨ (i = .feed32 ∧ s.flen.toNat % 4 ≠ 0))) ∧
    (t.ctx32.nonstd = true ↔ i ≠ .init32 ∧
      (s.ctx32.nonstd = true ∨ (s.ctx32.ts = true ∧ ∃ n, inputBytes32 s i = some n ∧ 0 < n))) ∧
    (t.ctx128.ts = true ↔ i ≠ .init128 ∧
      (s.ctx128.ts = true ∨ (∃ n, i = .tail128 n) ∨ (i = .feed128 ∧ s.flen.toNat % 16 ≠ 0))) ∧
    (t.ctx128.nonstd = true ↔ i ≠ .init128 ∧
      (s.ctx128.nonstd = true ∨ (s.ctx128.ts = true ∧ ∃ n, inputBytes128 s i = some n ∧ 0 < n)))) ∧
  (∀ s t : State, step s = .next t →
    (s.ctx32.ts = true → t.ctx32.ts = true ∨ HeadIs s .reset ∨ HeadCommand s .init32) ∧
    (s.ctx32.nonstd = true → t.ctx32.nonstd = true ∨ HeadIs s .reset ∨ HeadCommand s .init32) ∧
    (s.ctx128.ts = true → t.ctx128.ts = true ∨ HeadIs s .reset ∨ HeadCommand s .init128) ∧
    (s.ctx128.nonstd = true → t.ctx128.nonstd = true ∨ HeadIs s .reset ∨ HeadCommand s .init128))

/-- O28: only FIN of its width and reset change a digest register. -/
def Obligations.DigestsWrittenOnlyByFin : Prop :=
  ∀ s t : State, step s = .next t →
    (t.dig32 ≠ s.dig32 → HeadIs s .reset ∨ HeadCommand s .fin32) ∧
    (t.dig128_0 ≠ s.dig128_0 ∨ t.dig128_1 ≠ s.dig128_1 ∨ t.dig128_2 ≠ s.dig128_2 ∨ t.dig128_3 ≠ s.dig128_3 →
      HeadIs s .reset ∨ HeadCommand s .fin128)

/-- O29 (R55): the core reads `IBUF` only during FEED and only the bytes of the admitted range, and never writes it: with
the other bytes (for other commands, all bytes) replaced, the command does the same and leaves the replacement. A byte
changes only by a host write that covers it, to the value written, or by reset (to a byte not written). -/
def Obligations.IbufReadOnlyByFeedInRange : Prop :=
  (∀ (i : Instr) (s : State) (m : List Host.Cell),
    ((i = .feed32 ∨ i = .feed128) → FeedInRange s →
      ∀ j, j < s.flen.toNat → readByte m (s.foff.toNat + j) = readByte s.ibuf (s.foff.toNat + j)) →
    exec i { s with ibuf := m } = mapNext (fun t => { t with ibuf := m }) (exec i s)) ∧
  (∀ (s t : State) (a : Nat), step s = .next t → readByte t.ibuf a ≠ readByte s.ibuf a →
    (HeadIs s .reset ∧ readByte t.ibuf a = none) ∨
    ∃ x size v, HeadIs s (.write (s.params.base + (0x1000 + x)) size v) ∧ x ≤ a ∧ a < x + size ∧
      readByte t.ibuf a = some (v.extractLsb' (8 * (a - x)) 8))

/-- O30: a command reads no operand register but those its row of R73 names, and only FMIX writes any (R22). -/
def Obligations.OperandsReadByEachCommand : Prop :=
  ∀ (i : Instr) (s : State) (v : Word),
    (i ≠ .init32 → i ≠ .init128 →
      exec i { s with seed := v } = mapNext (fun t => { t with seed := v }) (exec i s)) ∧
    (i ≠ .feed32 → i ≠ .feed128 →
      exec i { s with foff := v } = mapNext (fun t => { t with foff := v }) (exec i s) ∧
      exec i { s with flen := v } = mapNext (fun t => { t with flen := v }) (exec i s)) ∧
    (i ≠ .block32 → i ≠ .block128 → (∀ n, i ≠ .tail32 n) → (∀ n, i ≠ .tail128 n) → i ≠ .fmix32 → i ≠ .fmix64 →
      exec i { s with kdata0 := v } = mapNext (fun t => { t with kdata0 := v }) (exec i s)) ∧
    (i ≠ .block128 → (∀ n, i ≠ .tail128 n) → i ≠ .fmix64 →
      exec i { s with kdata1 := v } = mapNext (fun t => { t with kdata1 := v }) (exec i s)) ∧
    (i ≠ .block128 → (∀ n, i ≠ .tail128 n) →
      exec i { s with kdata2 := v } = mapNext (fun t => { t with kdata2 := v }) (exec i s) ∧
      exec i { s with kdata3 := v } = mapNext (fun t => { t with kdata3 := v }) (exec i s)) ∧
    (∀ t, exec i s = .next t →
      (t.kdata0 ≠ s.kdata0 → i = .fmix32 ∨ i = .fmix64) ∧ (t.kdata1 ≠ s.kdata1 → i = .fmix64) ∧
      t.kdata2 = s.kdata2 ∧ t.kdata3 = s.kdata3 ∧ t.seed = s.seed ∧ t.foff = s.foff ∧ t.flen = s.flen)

/-- O31: a successful command adds exactly the bytes it mixed to its context's length, with no wrap; INIT zeroes it. -/
def Obligations.LengthCountsBytesExactly : Prop :=
  ∀ (i : Instr) (s t : State), exec i s = .next t → t.lastErr = 0 →
    (∀ n, inputBytes32 s i = some n → t.ctx32.len.toNat = s.ctx32.len.toNat + n) ∧
    (inputBytes32 s i = none → i ≠ .init32 → t.ctx32.len = s.ctx32.len) ∧
    (i = .init32 → t.ctx32.len = 0) ∧
    (∀ n, inputBytes128 s i = some n → t.ctx128.len.toNat = s.ctx128.len.toNat + n) ∧
    (inputBytes128 s i = none → i ≠ .init128 → t.ctx128.len = s.ctx128.len) ∧
    (i = .init128 → t.ctx128.len = 0)

/-- O32 (R42): a write to each read-write register, at its offset, sets all 32 bits and has no other effect. The `reply` is
the model's own record (log entry 4). -/
def Obligations.ReadWriteRegistersTakeWholeWord : Prop :=
  WritesAs 0x00C (fun v s => { s with seed := v }) ∧
  WritesAs 0x010 (fun v s => { s with kdata0 := v }) ∧
  WritesAs 0x014 (fun v s => { s with kdata1 := v }) ∧
  WritesAs 0x018 (fun v s => { s with kdata2 := v }) ∧
  WritesAs 0x01C (fun v s => { s with kdata3 := v }) ∧
  WritesAs 0x020 (fun v s => { s with foff := v }) ∧
  WritesAs 0x024 (fun v s => { s with flen := v })

/-- O33: a read of each readable register (10_state.md R30 to R39), at its offset, returns its value and changes nothing;
`STATUS` and `CONFIG` are written out bit by bit; a write to a read-only one is a bus error (20_memory.md R53). The answer
in `reply` is the model's own record (log entry 4), and that a bus error is the refusal of the step is read from 93 I7 (log
entry 5). -/
def Obligations.RegisterReadsReturnTheMap : Prop :=
  ReadsAs 0x000 (fun _ => 0x33484D4D) ∧
  ReadsAs 0x004 (fun s =>
    (0#19 ++ BitVec.ofBool s.errSeen ++ s.lastErr ++ 0#2 ++ BitVec.ofBool s.ctx128.nonstd ++
      BitVec.ofBool s.ctx32.nonstd ++ BitVec.ofBool s.ctx128.ts ++ BitVec.ofBool s.ctx32.ts ++
      BitVec.ofBool s.ctx128.final ++ BitVec.ofBool s.ctx32.final : BitVec 32)) ∧
  ReadsAs 0x00C (fun s => s.seed) ∧ ReadsAs 0x010 (fun s => s.kdata0) ∧ ReadsAs 0x014 (fun s => s.kdata1) ∧
  ReadsAs 0x018 (fun s => s.kdata2) ∧ ReadsAs 0x01C (fun s => s.kdata3) ∧ ReadsAs 0x020 (fun s => s.foff) ∧
  ReadsAs 0x024 (fun s => s.flen) ∧ ReadsAs 0x028 (fun s => s.ctx32.len) ∧ ReadsAs 0x02C (fun s => s.ctx128.len) ∧
  ReadsAs 0x030 (fun s => s.dig32) ∧ ReadsAs 0x040 (fun s => s.dig128_0) ∧ ReadsAs 0x044 (fun s => s.dig128_1) ∧
  ReadsAs 0x048 (fun s => s.dig128_2) ∧ ReadsAs 0x04C (fun s => s.dig128_3) ∧
  ReadsAs 0x050 (fun s =>
    (0#30 ++ BitVec.ofBool (decide (s.params.tailPolicy = .reference)) ++
      BitVec.ofBool s.params.seed32Compat : BitVec 32)) ∧
  ReadsAs 0x054 (fun s => BitVec.ofNat 32 s.params.ibufSize) ∧
  (∀ off ∈ [0x000, 0x004, 0x028, 0x02C, 0x030, 0x040, 0x044, 0x048, 0x04C, 0x050, 0x054], WriteIsBusError off 4)

/-- O34: the accesses to the register region that are bus errors: another width, a misaligned or reserved offset, a
write to a read-only register, a read of `CMD`. That the step is then refused is the treatment of 93 I7 (log entry 5). -/
def Obligations.BadRegisterAccessIsBusError : Prop :=
  (∀ off size, off < 0x1000 →
    (size ≠ 4 ∨ off % 4 ≠ 0 ∨ (0x034 ≤ off ∧ off ≤ 0x03F) ∨ 0x058 ≤ off) →
    ReadIsBusError off size ∧ WriteIsBusError off size) ∧
  (∀ off ∈ [0x000, 0x004, 0x028, 0x02C, 0x030, 0x040, 0x044, 0x048, 0x04C, 0x050, 0x054], WriteIsBusError off 4) ∧
  ReadIsBusError 0x008 4

/-- O35: a host access to `IBUF` of 1, 2 or 4 aligned bytes inside the buffer (20_memory.md R54) stores or returns its
bytes in their little-endian lanes and touches no other byte; every other access to the region is a bus error. An unwritten
byte reads as the free byte of the count of resets and the offset, whatever that is: log entry 8's choice. That a bus error
is the refusal of the step is read from 93 I7 (log entry 5), and `reply` is the model's own record (log entry 4). -/
def Obligations.IbufAccesses : Prop :=
  ∀ (s : State) (a size : Nat) (v : Word) (rest : List HostEvent), a < 0x1000 →
    (s.pending = .write (s.params.base + (0x1000 + a)) size v :: rest →
      ((size = 1 ∨ size = 2 ∨ size = 4) ∧ a % size = 0 ∧ a + size ≤ s.params.ibufSize →
        ∃ m, step s = .next { s with pending := rest, reply := .written, ibuf := m } ∧
          ∀ x, readByte m x =
            if a ≤ x ∧ x < a + size then some (v.extractLsb' (8 * (x - a)) 8) else readByte s.ibuf x) ∧
      (¬((size = 1 ∨ size = 2 ∨ size = 4) ∧ a % size = 0 ∧ a + size ≤ s.params.ibufSize) →
        step s = .refused .busError)) ∧
    (s.pending = .read (s.params.base + (0x1000 + a)) size :: rest →
      ((size = 1 ∨ size = 2 ∨ size = 4) ∧ a % size = 0 ∧ a + size ≤ s.params.ibufSize →
        ∃ w : Word, step s = .next { s with pending := rest, reply := .data size w } ∧ w.toNat < 256 ^ size ∧
          ∀ i, i < size → w.extractLsb' (8 * i) 8 =
            (readByte s.ibuf (a + i)).getD (Config.freeIbufByte s.resets (a + i))) ∧
      (¬((size = 1 ∨ size = 2 ∨ size = 4) ∧ a % size = 0 ∧ a + size ≤ s.params.ibufSize) →
        step s = .refused .busError))

/-- O36: the block sees no address outside its window: such an access changes nothing of the block (log entry 6). -/
def Obligations.OutsideWindowIsUnseen : Prop :=
  ∀ (s : State) (addr size : Nat) (v : Word) (rest : List HostEvent),
    addr < s.params.base ∨ s.params.base + 8192 ≤ addr →
    s.pending = .read addr size :: rest ∨ s.pending = .write addr size v :: rest →
    step s = .next { s with pending := rest, reply := .elsewhere }

/-- O37: from any state, reset leaves every piece of state at its reset value (10_state.md R45), and both contexts as INIT
leaves them with `SEED` = 0. That the events after the reset stay pending is the model's choice (log entry 9), and that the
parameters stand in the state and stay is log entry 1's. -/
def Obligations.ResetRestoresEveryField : Prop :=
  ∀ (s : State) (rest : List HostEvent), s.pending = .reset :: rest →
    ∃ t, step s = .next t ∧
      t.ctx32 = { h := 0, len := 0, final := false, ts := false, nonstd := false } ∧
      t.ctx128 = { h1 := 0, h2 := 0, len := 0, final := false, ts := false, nonstd := false } ∧
      t.seed = 0 ∧ t.kdata0 = 0 ∧ t.kdata1 = 0 ∧ t.kdata2 = 0 ∧ t.kdata3 = 0 ∧ t.foff = 0 ∧ t.flen = 0 ∧
      t.dig32 = 0 ∧ t.dig128_0 = 0 ∧ t.dig128_1 = 0 ∧ t.dig128_2 = 0 ∧ t.dig128_3 = 0 ∧
      t.lastErr = 0 ∧ t.errSeen = false ∧ t.params = s.params ∧ t.pending = rest ∧
      (∀ r : State, r.seed = 0 → ∃ u, exec .init32 r = .next u ∧ u.ctx32 = t.ctx32) ∧
      (∀ r : State, r.seed = 0 → ∃ u, exec .init128 r = .next u ∧ u.ctx128 = t.ctx128)

/-- O38: after reset no `IBUF` byte counts as written, in `State.reset` and after a reset event (log entries 7 and 9:
the model's form of the spec's unspecified contents). -/
def Obligations.ResetLeavesIbufUnwritten : Prop :=
  (∀ a, readByte State.reset.ibuf a = none) ∧
  ∀ (s t : State) (rest : List HostEvent), s.pending = .reset :: rest → step s = .next t →
    ∀ a, readByte t.ibuf a = none

/-- O39: `State.reset` meets the invariant of the machine. -/
def Obligations.ResetMeetsInvariant : Prop := Inv State.reset

/-- O40: every step keeps the invariant of the machine: legal parameters, canonical `IBUF` inside its size, codes 6 to
15 never in `LAST_ERR`, `nonstd` only after a tail under REFERENCE, a finalized context's digest in its registers. -/
def Obligations.StepKeepsInvariant : Prop :=
  ∀ s t : State, Inv s → step s = .next t → Inv t

/-- O41: no step changes a parameter of the instance. -/
def Obligations.ParametersNeverChange : Prop :=
  ∀ s t : State, step s = .next t → t.params = s.params

/-- O42 (R163): the avalanche functions map 0 to 0 and are bijections, because their steps are: a right shift by at least
1 xored in, and a product with an odd constant. So different accumulators give different results. -/
def Obligations.FmixAreBijections : Prop :=
  fmix32 0 = 0 ∧ fmix64 0 = 0 ∧ Function.Bijective fmix32 ∧ Function.Bijective fmix64 ∧
  (∀ r, 1 ≤ r → Function.Bijective (fun k : Word => k ^^^ (k >>> r)) ∧
    Function.Bijective (fun k : DWord => k ^^^ (k >>> r))) ∧
  (∀ c : Word, c.toNat % 2 = 1 → Function.Bijective (fun k : Word => c * k)) ∧
  (∀ c : DWord, c.toNat % 2 = 1 → Function.Bijective (fun k : DWord => c * k))

/-- O43 (R178): INIT then FIN with `SEED` = 0 gives all-zero digests, from every state. -/
def Obligations.EmptyInputDigestIsZero : Prop :=
  ∀ s : State, s.seed = 0 →
    (∃ t u, exec .init32 s = .next t ∧ exec .fin32 t = .next u ∧ u.lastErr = 0 ∧ u.dig32 = 0) ∧
    (∃ t u, exec .init128 s = .next t ∧ exec .fin128 t = .next u ∧ u.lastErr = 0 ∧
      u.dig128_0 = 0 ∧ u.dig128_1 = 0 ∧ u.dig128_2 = 0 ∧ u.dig128_3 = 0)

/-- O44 (R136): the two lines of `tail128` touch different accumulators and neither reads the other's, and a tail of at
most 8 bytes leaves `h2`. -/
def Obligations.ShortTail128KeepsSecondAccumulator : Prop :=
  (∀ (a a' b b' : DWord) (bs : List Byte),
    tail128 (a, b) bs = ((tail128 (a, b') bs).1, (tail128 (a', b) bs).2)) ∧
  (∀ (h : DWord × DWord) (bs : List Byte), bs.length ≤ 8 → (tailwords128 bs).2 = 0 ∧
    mixk2 (tailwords128 bs).2 = 0 ∧ (tail128 h bs).2 = h.2) ∧
  (∀ (s t : State) (n : BitVec 4), n.toNat ≤ 8 → exec (.tail128 n) s = .next t → t.ctx128.h2 = s.ctx128.h2)

/-- O45 (R116): a FEED32 that succeeds leaves the same `CTX32` as BLOCK32 on each of its words and TAIL32 on the rest;
one that fails mixes nothing, where the sequence can fail part way. -/
def Obligations.Feed32EqualsCommandSequence : Prop :=
  (∀ (s t : State) (bs : List Byte), feedBytes s = some bs → exec .feed32 s = .next t → t.lastErr = 0 →
    ∃ u, blocksThenTail32 (s.flen.toNat / 4) bs s = .next u ∧ u.ctx32 = t.ctx32) ∧
  (∀ s t : State, exec .feed32 s = .next t → t.lastErr ≠ 0 → t.ctx32 = s.ctx32) ∧
  (∃ (s t u : State) (bs : List Byte), feedBytes s = some bs ∧ exec .feed32 s = .next t ∧ t.lastErr ≠ 0 ∧
    blocksThenTail32 (s.flen.toNat / 4) bs s = .next u ∧ u.lastErr ≠ 0 ∧ u.ctx32 ≠ s.ctx32)

/-- O46 (R146): a FEED128 that succeeds leaves the same `CTX128` as BLOCK128 on each of its blocks and TAIL128 on the
rest; one that fails mixes nothing, where the sequence can fail part way. -/
def Obligations.Feed128EqualsCommandSequence : Prop :=
  (∀ (s t : State) (bs : List Byte), feedBytes s = some bs → exec .feed128 s = .next t → t.lastErr = 0 →
    ∃ u, blocksThenTail128 (s.flen.toNat / 16) bs s = .next u ∧ u.ctx128 = t.ctx128) ∧
  (∀ s t : State, exec .feed128 s = .next t → t.lastErr ≠ 0 → t.ctx128 = s.ctx128) ∧
  (∃ (s t u : State) (bs : List Byte), feedBytes s = some bs ∧ exec .feed128 s = .next t ∧ t.lastErr ≠ 0 ∧
    blocksThenTail128 (s.flen.toNat / 16) bs s = .next u ∧ u.lastErr ≠ 0 ∧ u.ctx128 ≠ s.ctx128)

/-- O47: under FAULT, successful FEED32 commands of `bss` from a context in ABSORB with no tail seen have every string
but those after which nothing is fed of a length that is a multiple of 4 (after a string of another length the next
FEED32 of a byte fails), and leave the `CTX32` that a single FEED32 of the concatenation leaves (log entry 15 on the
strings after which nothing is fed). -/
def Obligations.StreamedFeed32EqualsOneFeed : Prop :=
  ∀ (p : Params) (c c' : Ctx32) (bss : List (List Byte)), Feeds32 p c bss c' → p.tailPolicy = .fault →
    c.final = false → c.ts = false →
    (∀ pre b post, bss = pre ++ b :: post → post.flatten ≠ [] → b.length % 4 = 0) ∧
    (∀ (b : List Byte) (s : State), b ∈ bss → b.length % 4 ≠ 0 → s.params = p → s.ctx32 = c' → FeedInRange s →
      0 < s.flen.toNat → exec .feed32 s = .next (failWith 3 s)) ∧
    (∀ s : State, s.params = p → s.ctx32 = c → FeedInRange s → feedBytes s = some bss.flatten →
      ∃ t, exec .feed32 s = .next t ∧ t.lastErr = 0 ∧ t.ctx32 = c')

/-- O48: the same of FEED128 and multiples of 16 (log entry 15). -/
def Obligations.StreamedFeed128EqualsOneFeed : Prop :=
  ∀ (p : Params) (c c' : Ctx128) (bss : List (List Byte)), Feeds128 p c bss c' → p.tailPolicy = .fault →
    c.final = false → c.ts = false →
    (∀ pre b post, bss = pre ++ b :: post → post.flatten ≠ [] → b.length % 16 = 0) ∧
    (∀ (b : List Byte) (s : State), b ∈ bss → b.length % 16 ≠ 0 → s.params = p → s.ctx128 = c' → FeedInRange s →
      0 < s.flen.toNat → exec .feed128 s = .next (failWith 3 s)) ∧
    (∀ s : State, s.params = p → s.ctx128 = c → FeedInRange s → feedBytes s = some bss.flatten →
      ∃ t, exec .feed128 s = .next t ∧ t.lastErr = 0 ∧ t.ctx128 = c')

/-- O49 (R80): a bare mnemonic is one `CMD` write of the word of the table, and serving it runs the command. The `reply` is
the model's own record (log entry 4). -/
def Obligations.MnemonicWriteRunsCommand : Prop :=
  (∀ (p : Params) (i : Instr), asmCommand p i = .write (p.base + 0x008) 4 (encode i)) ∧
  encode .init32 = 0x00000001 ∧ encode .init128 = 0x00000011 ∧ encode .block32 = 0x00000002 ∧
  encode .block128 = 0x00000012 ∧ (∀ n, encode (.tail32 n) = 0x00000003 ||| (n.setWidth 32 <<< 8)) ∧
  (∀ n, encode (.tail128 n) = 0x00000013 ||| (n.setWidth 32 <<< 8)) ∧ encode .feed32 = 0x00000004 ∧
  encode .feed128 = 0x00000014 ∧ encode .fin32 = 0x00000005 ∧ encode .fin128 = 0x00000015 ∧
  encode .fmix32 = 0x00000006 ∧ encode .fmix64 = 0x00000016 ∧
  (∀ (s : State) (i : Instr) (rest : List HostEvent), i.wellFormed = true →
    s.pending = asmCommand s.params i :: rest →
    step s = mapNext (fun t => { t with reply := .written }) (exec i { s with pending := rest }))

/-- O50 (R81): each mnemonic with operands writes its operand registers and then runs its command. The `reply` is the
model's own record (log entry 4). -/
def Obligations.OperandMnemonicsExpand : Prop :=
  ∀ (s : State) (a b c d : Word) (rest : List HostEvent),
    (s.pending = asmInit32 s.params a ++ rest →
      steps 2 s = mapNext (fun t => { t with reply := .written })
        (exec .init32 { s with seed := a, pending := rest })) ∧
    (s.pending = asmInit128 s.params a ++ rest →
      steps 2 s = mapNext (fun t => { t with reply := .written })
        (exec .init128 { s with seed := a, pending := rest })) ∧
    (s.pending = asmBlock32 s.params a ++ rest →
      steps 2 s = mapNext (fun t => { t with reply := .written })
        (exec .block32 { s with kdata0 := a, pending := rest })) ∧
    (s.pending = asmBlock128 s.params a b c d ++ rest →
      steps 5 s = mapNext (fun t => { t with reply := .written })
        (exec .block128 { s with kdata0 := a, kdata1 := b, kdata2 := c, kdata3 := d, pending := rest })) ∧
    (s.pending = asmFeed32 s.params a b ++ rest →
      steps 3 s = mapNext (fun t => { t with reply := .written })
        (exec .feed32 { s with foff := a, flen := b, pending := rest })) ∧
    (s.pending = asmFeed128 s.params a b ++ rest →
      steps 3 s = mapNext (fun t => { t with reply := .written })
        (exec .feed128 { s with foff := a, flen := b, pending := rest }))

/-- O51 (R169): a successful FIN leaves its context FINAL with the digest in the digest registers; in a FINAL context every
BLOCK, TAIL, FEED and FIN of the width fails with `MISUSE_FINALIZED`; and every step from a FINAL context keeps the
context and the digest registers, but for reset, and for INIT of the width, which keeps the digest registers. -/
def Obligations.FinalizeIsSingleUse : Prop :=
  (∀ s t : State,
    (exec .fin32 s = .next t → t.lastErr = 0 → t.ctx32.final = true ∧ t.dig32 = t.ctx32.h) ∧
    (exec .fin128 s = .next t → t.lastErr = 0 →
      t.ctx128.final = true ∧ t.dig128_1 ++ t.dig128_0 = t.ctx128.h1 ∧ t.dig128_3 ++ t.dig128_2 = t.ctx128.h2)) ∧
  (∀ (s : State) (i : Instr), i.wellFormed = true →
    (s.ctx32.final = true → uses32 i = true → i ≠ .init32 → exec i s = .next (failWith 2 s)) ∧
    (s.ctx128.final = true → uses128 i = true → i ≠ .init128 → exec i s = .next (failWith 2 s))) ∧
  (∀ s t : State, step s = .next t →
    (s.ctx32.final = true →
      HeadIs s .reset ∨ (t.dig32 = s.dig32 ∧ (t.ctx32 = s.ctx32 ∨ HeadCommand s .init32))) ∧
    (s.ctx128.final = true →
      HeadIs s .reset ∨
        ((t.dig128_0 = s.dig128_0 ∧ t.dig128_1 = s.dig128_1 ∧ t.dig128_2 = s.dig128_2 ∧ t.dig128_3 = s.dig128_3) ∧
          (t.ctx128 = s.ctx128 ∨ HeadCommand s .init128))))

/-- O52: `ERR_SEEN` is sticky: only reset clears it, and only a failing command sets it: where a step sets it, the event
served was the write of a word to `CMD`, and `LAST_ERR` is nonzero after it. -/
def Obligations.ErrSeenIsSticky : Prop :=
  ∀ s t : State, step s = .next t →
    (s.errSeen = true → t.errSeen = true ∨ HeadIs s .reset) ∧
    (s.errSeen = false → t.errSeen = true →
      ∃ w rest, s.pending = .write (s.params.base + 0x008) 4 w :: rest ∧ t.lastErr ≠ 0)

/-- O53: reads have no side effect: serving a read changes nothing but the events left and the reply, and the same read
served next returns the same answer. -/
def Obligations.ReadsHaveNoSideEffect : Prop :=
  ∀ (s t : State) (addr size : Nat) (rest : List HostEvent), s.pending = .read addr size :: rest →
    step s = .next t → t = { s with pending := rest, reply := t.reply } ∧
      ∀ rest', step { t with pending := .read addr size :: rest' } = .next { t with pending := rest' }

/-- O54 (R104, R134): the tail steps on every tail of 1 to 3 (1 to 15) bytes, the tail words built byte by byte by or, and
the bits above the last possible tail byte 0. -/
def Obligations.TailSteps : Prop :=
  (∀ (h : Word) (b : List Byte), 1 ≤ b.length → b.length ≤ 3 →
    let k := (List.range b.length).foldl (fun k i => k ||| ((b.getD i 0).setWidth 32 <<< (8 * i))) (0 : Word)
    tailword32 b = k ∧ k.toNat < 2 ^ 24 ∧ tail32 h b = h ^^^ mixk32 k) ∧
  (∀ (h1 h2 : DWord) (b : List Byte), 1 ≤ b.length → b.length ≤ 15 →
    let k := (List.range b.length).foldl
      (fun k i =>
        if i < 8 then (k.1 ||| ((b.getD i 0).setWidth 64 <<< (8 * i)), k.2)
        else (k.1, k.2 ||| ((b.getD i 0).setWidth 64 <<< (8 * (i - 8)))))
      ((0, 0) : DWord × DWord)
    tailwords128 b = k ∧ k.2.toNat < 2 ^ 56 ∧ tail128 (h1, h2) b = (h1 ^^^ mixk1 k.1, h2 ^^^ mixk2 k.2))

/-- O55: what a command of a width leaves in its context and reports depends only on that context, the parameters, and the
seed, the staged bytes or the fed bytes it reads: two states that agree on those give the same. -/
def Obligations.DigestDependsOnlyOnItsInputs : Prop :=
  (∀ (i : Instr) (s s' t : State), uses32 i = true → s'.params = s.params → s'.ctx32 = s.ctx32 →
    (i = .init32 → s'.seed = s.seed) → (i = .block32 → s'.kdata0 = s.kdata0) →
    (∀ n, i = .tail32 n → s'.kdata0.toNat % 256 ^ n.toNat = s.kdata0.toNat % 256 ^ n.toNat) →
    (i = .feed32 → s'.flen = s.flen ∧ (FeedInRange s' ↔ FeedInRange s) ∧ feedBytes s' = feedBytes s) →
    exec i s = .next t →
    ∃ t', exec i s' = .next t' ∧ t'.ctx32 = t.ctx32 ∧ t'.lastErr = t.lastErr ∧
      (i = .fin32 → t.lastErr = 0 → t'.dig32 = t.dig32)) ∧
  (∀ (i : Instr) (s s' t : State), uses128 i = true → s'.params = s.params → s'.ctx128 = s.ctx128 →
    (i = .init128 → s'.seed = s.seed) → (i = .block128 → stagingArea s' = stagingArea s) →
    (∀ n, i = .tail128 n → (stagingArea s').toNat % 256 ^ n.toNat = (stagingArea s).toNat % 256 ^ n.toNat) →
    (i = .feed128 → s'.flen = s.flen ∧ (FeedInRange s' ↔ FeedInRange s) ∧ feedBytes s' = feedBytes s) →
    exec i s = .next t →
    ∃ t', exec i s' = .next t' ∧ t'.ctx128 = t.ctx128 ∧ t'.lastErr = t.lastErr ∧
      (i = .fin128 → t.lastErr = 0 →
        t'.dig128_0 = t.dig128_0 ∧ t'.dig128_1 = t.dig128_1 ∧ t'.dig128_2 = t.dig128_2 ∧ t'.dig128_3 = t.dig128_3))
end

