-- ==== Sys2Proof/Laws/Arith.lean ====
section
/-! SUPPORT. What the arithmetic helpers compute: the rotations, the halves of a 64-bit value, the little-endian value of
a byte list, and the avalanche functions unfolded. -/

namespace Sys2Proof.Machine

/-- `rotl_32` is the rotation of a bit vector, for the amounts of 00_scope.md R11. -/
theorem rotl32_eq_rotateLeft (a : Word) {r : Nat} (h : r < 32) : rotl32 a r = a.rotateLeft r := by
  rw [rotl32, BitVec.rotateLeft_def, Nat.mod_eq_of_lt h]

theorem rotl64_eq_rotateLeft (a : DWord) {r : Nat} (h : r < 64) : rotl64 a r = a.rotateLeft r := by
  rw [rotl64, BitVec.rotateLeft_def, Nat.mod_eq_of_lt h]

theorem joinHalves_eq_append (hi lo : Word) : joinHalves hi lo = hi ++ lo := by
  apply BitVec.eq_of_getLsbD_eq
  intro i hi'
  rw [BitVec.getLsbD_append]
  simp only [joinHalves, BitVec.getLsbD_or, BitVec.getLsbD_shiftLeft, BitVec.getLsbD_setWidth]
  by_cases h : i < 32
  · simp [h, hi']
  · simp [h, hi', BitVec.getLsbD_of_ge lo i (by omega)]
    omega

theorem lowHalf_eq (v : DWord) : lowHalf v = BitVec.ofNat 32 v.toNat := by
  apply BitVec.eq_of_toNat_eq
  simp [lowHalf]

theorem highHalf_eq (v : DWord) : highHalf v = BitVec.ofNat 32 (v.toNat / 4294967296) := by
  apply BitVec.eq_of_toNat_eq
  simp [highHalf, Nat.shiftRight_eq_div_pow]

/-- The halves of a value, joined, are the value (10_state.md R34). -/
theorem highHalf_append_lowHalf (v : DWord) : highHalf v ++ lowHalf v = v := by
  apply BitVec.eq_of_getLsbD_eq
  intro i hi
  rw [BitVec.getLsbD_append]
  by_cases h : i < 32
  · simp [h, lowHalf]
  · simp only [h, highHalf, BitVec.getLsbD_extractLsb', if_false]
    rw [show 32 + (i - 32) = i by omega]
    simp
    omega

@[simp] theorem leWord_nil (w : Nat) : leWord w [] = 0 := rfl

@[simp] theorem leWord_cons (w : Nat) (b : Byte) (bs : List Byte) :
    leWord w (b :: bs) = b.setWidth w ||| (leWord w bs <<< 8) := rfl

/-- Bit `8i + j` of a little-endian value is bit `j` of byte `i` (20_memory.md R52). -/
theorem getLsbD_leWord {w : Nat} (bs : List Byte) (k : Nat) (hk : k < w) :
    (leWord w bs).getLsbD k = (bs.getD (k / 8) 0).getLsbD (k % 8) := by
  induction bs generalizing k with
  | nil => simp
  | cons b bs ih =>
    rw [leWord_cons, BitVec.getLsbD_or, BitVec.getLsbD_shiftLeft, BitVec.getLsbD_setWidth]
    by_cases h8 : k < 8
    · simp [h8, hk, Nat.div_eq_of_lt h8, Nat.mod_eq_of_lt h8]
    · have hd : k / 8 = (k - 8) / 8 + 1 := by omega
      have hm : k % 8 = (k - 8) % 8 := by omega
      rw [hd, hm, List.getD_cons_succ, ← ih (k - 8) (by omega), BitVec.getLsbD_of_ge b k (by omega)]
      simp [h8, hk]

theorem fmix32_eq (k : Word) : fmix32 k =
    (let k := 0x85ebca6b * (k ^^^ (k >>> 16))
     let k := 0xc2b2ae35 * (k ^^^ (k >>> 13))
     k ^^^ (k >>> 16)) := rfl

theorem fmix64_eq (k : DWord) : fmix64 k =
    (let k := 0xff51afd7ed558ccd * (k ^^^ (k >>> 33))
     let k := 0xc4ceb9fe1a85ec53 * (k ^^^ (k >>> 33))
     k ^^^ (k >>> 33)) := rfl

end Sys2Proof.Machine
end

