-- ==== Sys2Proof/Laws/Memory.lean ====
section
/-! SUPPORT. The laws of the input buffer's memory: a read after a write, the canonical form, and what a range read
answers. -/

namespace Sys2Proof.Machine

@[simp] theorem readByte_nil (a : Nat) : readByte [] a = none := rfl

theorem readByte_writeByte_same (m : List Host.Cell) (a : Nat) (v : Byte) :
    readByte (writeByte m a v) a = some v := by
  induction m with
  | nil => simp [writeByte, readByte]
  | cons c m ih =>
    obtain ⟨k, b⟩ := c
    simp only [writeByte]
    split
    · simp [readByte]
    · split
      · simp [readByte]
      · rename_i _ h
        simp [readByte, Ne.symm h, ih]

theorem readByte_writeByte_other (m : List Host.Cell) {a x : Nat} (v : Byte) (hx : x ≠ a) :
    readByte (writeByte m a v) x = readByte m x := by
  induction m with
  | nil => simp [writeByte, readByte, Ne.symm hx]
  | cons c m ih =>
    obtain ⟨k, b⟩ := c
    simp only [writeByte]
    split
    · simp [readByte, Ne.symm hx]
    · split
      · rename_i _ h
        subst h
        simp [readByte, Ne.symm hx]
      · simp [readByte, ih]

theorem mem_writeByte {m : List Host.Cell} {a : Nat} {v : Byte} {c : Host.Cell} (h : c ∈ writeByte m a v) :
    c = (a, v) ∨ c ∈ m := by
  induction m with
  | nil => simpa [writeByte] using h
  | cons d m ih =>
    obtain ⟨k, b⟩ := d
    simp only [writeByte] at h
    split at h
    · simpa using h
    · split at h
      · simp only [List.mem_cons] at h ⊢
        tauto
      · simp only [List.mem_cons] at h ⊢
        tauto

/-- A write keeps the canonical form. -/
theorem writeByte_wf {m : List Host.Cell} (a : Nat) (v : Byte) (h : Memory.wf m) : Memory.wf (writeByte m a v) := by
  induction m with
  | nil => simp [writeByte]
  | cons d m ih =>
    obtain ⟨k, b⟩ := d
    obtain ⟨hk, hm⟩ := List.pairwise_cons.1 h
    simp only [writeByte]
    split
    · rename_i hlt
      refine List.pairwise_cons.2 ⟨fun c hc => ?_, h⟩
      rcases List.mem_cons.1 hc with rfl | hc
      · exact hlt
      · exact lt_trans hlt (hk c hc)
    · split
      · rename_i _ he
        subst he
        exact List.pairwise_cons.2 ⟨hk, hm⟩
      · rename_i hn he
        refine List.pairwise_cons.2 ⟨fun c hc => ?_, ih hm⟩
        rcases mem_writeByte hc with rfl | hc
        · show k < a
          omega
        · exact hk c hc

theorem writeBytes_wf {m : List Host.Cell} (a : Nat) (v : Word) (n : Nat) (h : Memory.wf m) :
    Memory.wf (writeBytes m a v n) := by
  induction n with
  | zero => exact h
  | succ n ih => exact writeByte_wf _ _ ih

theorem mem_writeBytes {m : List Host.Cell} {a : Nat} {v : Word} {n : Nat} {c : Host.Cell}
    (h : c ∈ writeBytes m a v n) : (a ≤ c.1 ∧ c.1 < a + n) ∨ c ∈ m := by
  induction n with
  | zero => exact .inr h
  | succ n ih =>
    rcases mem_writeByte h with rfl | h
    · exact .inl ⟨by simp, by simp⟩
    · rcases ih h with h | h
      · exact .inl (by omega)
      · exact .inr h

/-- Reading one byte after `MemWrite(a, n, v)` (00_scope.md R13). -/
theorem readByte_writeBytes (m : List Host.Cell) (a : Nat) (v : Word) (n x : Nat) :
    readByte (writeBytes m a v n) x =
      if a ≤ x ∧ x < a + n then some (byteOf v (x - a)) else readByte m x := by
  induction n with
  | zero => simp [writeBytes]
  | succ n ih =>
    simp only [writeBytes]
    by_cases hx : x = a + n
    · subst hx
      simp [readByte_writeByte_same]
    · rw [readByte_writeByte_other _ _ hx, ih]
      by_cases h : a ≤ x ∧ x < a + n
      · rw [if_pos h, if_pos (by omega)]
      · rw [if_neg h, if_neg (by omega)]

theorem readRange_length {m : List Host.Cell} {a n : Nat} {bs : List Byte} (h : readRange m a n = some bs) :
    bs.length = n := by
  induction n generalizing a bs with
  | zero => cases h; rfl
  | succ n ih =>
    simp only [readRange] at h
    split at h
    · rename_i hb hbs
      cases h
      simp [ih hbs]
    · cases h

/-- What a range read answers: each byte of it, in order. -/
theorem readRange_get {m : List Host.Cell} {a n : Nat} {bs : List Byte} (h : readRange m a n = some bs)
    {i : Nat} (hi : i < n) : readByte m (a + i) = bs[i]? := by
  induction n generalizing a bs i with
  | zero => omega
  | succ n ih =>
    simp only [readRange] at h
    split at h
    · rename_i hb hbs
      cases h
      cases i with
      | zero => simpa using hb
      | succ i =>
        have := ih hbs (i := i) (by omega)
        rw [← Nat.add_assoc, Nat.add_right_comm] 
        simpa using this
    · cases h

/-- A range read answers nothing exactly when a byte of the range has not been written. -/
theorem readRange_isSome_iff (m : List Host.Cell) (a n : Nat) :
    (readRange m a n).isSome = true ↔ ∀ i, i < n → (readByte m (a + i)).isSome = true := by
  induction n generalizing a with
  | zero => simp [readRange]
  | succ n ih =>
    have step : (readRange m a (n + 1)).isSome = true ↔
        (readByte m a).isSome = true ∧ (readRange m (a + 1) n).isSome = true := by
      simp only [readRange]
      cases readByte m a <;> cases readRange m (a + 1) n <;> simp
    rw [step, ih]
    constructor
    · rintro ⟨h0, h⟩ i hi
      cases i with
      | zero => exact h0
      | succ i =>
        have := h i (by omega)
        rwa [show a + (i + 1) = a + 1 + i by omega]
    · intro h
      refine ⟨h 0 (by omega), fun i hi => ?_⟩
      have := h (i + 1) (by omega)
      rwa [show a + (i + 1) = a + 1 + i by omega] at this

/-- A range read depends only on the bytes of its range. -/
theorem readRange_congr {m m' : List Host.Cell} {a n : Nat}
    (h : ∀ i, i < n → readByte m' (a + i) = readByte m (a + i)) : readRange m' a n = readRange m a n := by
  induction n generalizing a with
  | zero => rfl
  | succ n ih =>
    have h0 := h 0 (by omega)
    have hs : readRange m' (a + 1) n = readRange m (a + 1) n := by
      refine ih fun i hi => ?_
      have := h (i + 1) (by omega)
      rwa [show a + (i + 1) = a + 1 + i by omega] at this
    simp only [readRange, hs]
    rw [show readByte m' a = readByte m a from h0]

end Sys2Proof.Machine
end

