-- ==== Sys2Proof/Laws/State.lean ====
section
/-! SUPPORT. What each named update leaves in each field of the state: one lemma per field per update. -/

namespace Sys2Proof.Machine

@[simp] theorem succeed32_ctx32 (c : Ctx32) (s : State) : (succeed32 c s).ctx32 = c := rfl
@[simp] theorem succeed32_ctx128 (c : Ctx32) (s : State) : (succeed32 c s).ctx128 = s.ctx128 := rfl
@[simp] theorem succeed32_seed (c : Ctx32) (s : State) : (succeed32 c s).seed = s.seed := rfl
@[simp] theorem succeed32_kdata0 (c : Ctx32) (s : State) : (succeed32 c s).kdata0 = s.kdata0 := rfl
@[simp] theorem succeed32_kdata1 (c : Ctx32) (s : State) : (succeed32 c s).kdata1 = s.kdata1 := rfl
@[simp] theorem succeed32_kdata2 (c : Ctx32) (s : State) : (succeed32 c s).kdata2 = s.kdata2 := rfl
@[simp] theorem succeed32_kdata3 (c : Ctx32) (s : State) : (succeed32 c s).kdata3 = s.kdata3 := rfl
@[simp] theorem succeed32_foff (c : Ctx32) (s : State) : (succeed32 c s).foff = s.foff := rfl
@[simp] theorem succeed32_flen (c : Ctx32) (s : State) : (succeed32 c s).flen = s.flen := rfl
@[simp] theorem succeed32_dig32 (c : Ctx32) (s : State) : (succeed32 c s).dig32 = s.dig32 := rfl
@[simp] theorem succeed32_dig128_0 (c : Ctx32) (s : State) : (succeed32 c s).dig128_0 = s.dig128_0 := rfl
@[simp] theorem succeed32_dig128_1 (c : Ctx32) (s : State) : (succeed32 c s).dig128_1 = s.dig128_1 := rfl
@[simp] theorem succeed32_dig128_2 (c : Ctx32) (s : State) : (succeed32 c s).dig128_2 = s.dig128_2 := rfl
@[simp] theorem succeed32_dig128_3 (c : Ctx32) (s : State) : (succeed32 c s).dig128_3 = s.dig128_3 := rfl
@[simp] theorem succeed32_lastErr (c : Ctx32) (s : State) : (succeed32 c s).lastErr = 0 := rfl
@[simp] theorem succeed32_errSeen (c : Ctx32) (s : State) : (succeed32 c s).errSeen = s.errSeen := rfl
@[simp] theorem succeed32_ibuf (c : Ctx32) (s : State) : (succeed32 c s).ibuf = s.ibuf := rfl
@[simp] theorem succeed32_params (c : Ctx32) (s : State) : (succeed32 c s).params = s.params := rfl
@[simp] theorem succeed32_pending (c : Ctx32) (s : State) : (succeed32 c s).pending = s.pending := rfl
@[simp] theorem succeed32_reply (c : Ctx32) (s : State) : (succeed32 c s).reply = s.reply := rfl
@[simp] theorem succeed32_resets (c : Ctx32) (s : State) : (succeed32 c s).resets = s.resets := rfl

@[simp] theorem succeed128_ctx32 (c : Ctx128) (s : State) : (succeed128 c s).ctx32 = s.ctx32 := rfl
@[simp] theorem succeed128_ctx128 (c : Ctx128) (s : State) : (succeed128 c s).ctx128 = c := rfl
@[simp] theorem succeed128_seed (c : Ctx128) (s : State) : (succeed128 c s).seed = s.seed := rfl
@[simp] theorem succeed128_kdata0 (c : Ctx128) (s : State) : (succeed128 c s).kdata0 = s.kdata0 := rfl
@[simp] theorem succeed128_kdata1 (c : Ctx128) (s : State) : (succeed128 c s).kdata1 = s.kdata1 := rfl
@[simp] theorem succeed128_kdata2 (c : Ctx128) (s : State) : (succeed128 c s).kdata2 = s.kdata2 := rfl
@[simp] theorem succeed128_kdata3 (c : Ctx128) (s : State) : (succeed128 c s).kdata3 = s.kdata3 := rfl
@[simp] theorem succeed128_foff (c : Ctx128) (s : State) : (succeed128 c s).foff = s.foff := rfl
@[simp] theorem succeed128_flen (c : Ctx128) (s : State) : (succeed128 c s).flen = s.flen := rfl
@[simp] theorem succeed128_dig32 (c : Ctx128) (s : State) : (succeed128 c s).dig32 = s.dig32 := rfl
@[simp] theorem succeed128_dig128_0 (c : Ctx128) (s : State) : (succeed128 c s).dig128_0 = s.dig128_0 := rfl
@[simp] theorem succeed128_dig128_1 (c : Ctx128) (s : State) : (succeed128 c s).dig128_1 = s.dig128_1 := rfl
@[simp] theorem succeed128_dig128_2 (c : Ctx128) (s : State) : (succeed128 c s).dig128_2 = s.dig128_2 := rfl
@[simp] theorem succeed128_dig128_3 (c : Ctx128) (s : State) : (succeed128 c s).dig128_3 = s.dig128_3 := rfl
@[simp] theorem succeed128_lastErr (c : Ctx128) (s : State) : (succeed128 c s).lastErr = 0 := rfl
@[simp] theorem succeed128_errSeen (c : Ctx128) (s : State) : (succeed128 c s).errSeen = s.errSeen := rfl
@[simp] theorem succeed128_ibuf (c : Ctx128) (s : State) : (succeed128 c s).ibuf = s.ibuf := rfl
@[simp] theorem succeed128_params (c : Ctx128) (s : State) : (succeed128 c s).params = s.params := rfl
@[simp] theorem succeed128_pending (c : Ctx128) (s : State) : (succeed128 c s).pending = s.pending := rfl
@[simp] theorem succeed128_reply (c : Ctx128) (s : State) : (succeed128 c s).reply = s.reply := rfl
@[simp] theorem succeed128_resets (c : Ctx128) (s : State) : (succeed128 c s).resets = s.resets := rfl

@[simp] theorem finish32_ctx32 (c : Ctx32) (h : Word) (s : State) : (finish32 c h s).ctx32 = c := rfl
@[simp] theorem finish32_ctx128 (c : Ctx32) (h : Word) (s : State) : (finish32 c h s).ctx128 = s.ctx128 := rfl
@[simp] theorem finish32_seed (c : Ctx32) (h : Word) (s : State) : (finish32 c h s).seed = s.seed := rfl
@[simp] theorem finish32_kdata0 (c : Ctx32) (h : Word) (s : State) : (finish32 c h s).kdata0 = s.kdata0 := rfl
@[simp] theorem finish32_kdata1 (c : Ctx32) (h : Word) (s : State) : (finish32 c h s).kdata1 = s.kdata1 := rfl
@[simp] theorem finish32_kdata2 (c : Ctx32) (h : Word) (s : State) : (finish32 c h s).kdata2 = s.kdata2 := rfl
@[simp] theorem finish32_kdata3 (c : Ctx32) (h : Word) (s : State) : (finish32 c h s).kdata3 = s.kdata3 := rfl
@[simp] theorem finish32_foff (c : Ctx32) (h : Word) (s : State) : (finish32 c h s).foff = s.foff := rfl
@[simp] theorem finish32_flen (c : Ctx32) (h : Word) (s : State) : (finish32 c h s).flen = s.flen := rfl
@[simp] theorem finish32_dig32 (c : Ctx32) (h : Word) (s : State) : (finish32 c h s).dig32 = h := rfl
@[simp] theorem finish32_dig128_0 (c : Ctx32) (h : Word) (s : State) : (finish32 c h s).dig128_0 = s.dig128_0 := rfl
@[simp] theorem finish32_dig128_1 (c : Ctx32) (h : Word) (s : State) : (finish32 c h s).dig128_1 = s.dig128_1 := rfl
@[simp] theorem finish32_dig128_2 (c : Ctx32) (h : Word) (s : State) : (finish32 c h s).dig128_2 = s.dig128_2 := rfl
@[simp] theorem finish32_dig128_3 (c : Ctx32) (h : Word) (s : State) : (finish32 c h s).dig128_3 = s.dig128_3 := rfl
@[simp] theorem finish32_lastErr (c : Ctx32) (h : Word) (s : State) : (finish32 c h s).lastErr = 0 := rfl
@[simp] theorem finish32_errSeen (c : Ctx32) (h : Word) (s : State) : (finish32 c h s).errSeen = s.errSeen := rfl
@[simp] theorem finish32_ibuf (c : Ctx32) (h : Word) (s : State) : (finish32 c h s).ibuf = s.ibuf := rfl
@[simp] theorem finish32_params (c : Ctx32) (h : Word) (s : State) : (finish32 c h s).params = s.params := rfl
@[simp] theorem finish32_pending (c : Ctx32) (h : Word) (s : State) : (finish32 c h s).pending = s.pending := rfl
@[simp] theorem finish32_reply (c : Ctx32) (h : Word) (s : State) : (finish32 c h s).reply = s.reply := rfl
@[simp] theorem finish32_resets (c : Ctx32) (h : Word) (s : State) : (finish32 c h s).resets = s.resets := rfl

@[simp] theorem finish128_ctx32 (c : Ctx128) (a b : DWord) (s : State) : (finish128 c a b s).ctx32 = s.ctx32 := rfl
@[simp] theorem finish128_ctx128 (c : Ctx128) (a b : DWord) (s : State) : (finish128 c a b s).ctx128 = c := rfl
@[simp] theorem finish128_seed (c : Ctx128) (a b : DWord) (s : State) : (finish128 c a b s).seed = s.seed := rfl
@[simp] theorem finish128_kdata0 (c : Ctx128) (a b : DWord) (s : State) : (finish128 c a b s).kdata0 = s.kdata0 := rfl
@[simp] theorem finish128_kdata1 (c : Ctx128) (a b : DWord) (s : State) : (finish128 c a b s).kdata1 = s.kdata1 := rfl
@[simp] theorem finish128_kdata2 (c : Ctx128) (a b : DWord) (s : State) : (finish128 c a b s).kdata2 = s.kdata2 := rfl
@[simp] theorem finish128_kdata3 (c : Ctx128) (a b : DWord) (s : State) : (finish128 c a b s).kdata3 = s.kdata3 := rfl
@[simp] theorem finish128_foff (c : Ctx128) (a b : DWord) (s : State) : (finish128 c a b s).foff = s.foff := rfl
@[simp] theorem finish128_flen (c : Ctx128) (a b : DWord) (s : State) : (finish128 c a b s).flen = s.flen := rfl
@[simp] theorem finish128_dig32 (c : Ctx128) (a b : DWord) (s : State) : (finish128 c a b s).dig32 = s.dig32 := rfl
@[simp] theorem finish128_dig128_0 (c : Ctx128) (a b : DWord) (s : State) : (finish128 c a b s).dig128_0 = lowHalf a := rfl
@[simp] theorem finish128_dig128_1 (c : Ctx128) (a b : DWord) (s : State) : (finish128 c a b s).dig128_1 = highHalf a := rfl
@[simp] theorem finish128_dig128_2 (c : Ctx128) (a b : DWord) (s : State) : (finish128 c a b s).dig128_2 = lowHalf b := rfl
@[simp] theorem finish128_dig128_3 (c : Ctx128) (a b : DWord) (s : State) : (finish128 c a b s).dig128_3 = highHalf b := rfl
@[simp] theorem finish128_lastErr (c : Ctx128) (a b : DWord) (s : State) : (finish128 c a b s).lastErr = 0 := rfl
@[simp] theorem finish128_errSeen (c : Ctx128) (a b : DWord) (s : State) : (finish128 c a b s).errSeen = s.errSeen := rfl
@[simp] theorem finish128_ibuf (c : Ctx128) (a b : DWord) (s : State) : (finish128 c a b s).ibuf = s.ibuf := rfl
@[simp] theorem finish128_params (c : Ctx128) (a b : DWord) (s : State) : (finish128 c a b s).params = s.params := rfl
@[simp] theorem finish128_pending (c : Ctx128) (a b : DWord) (s : State) : (finish128 c a b s).pending = s.pending := rfl
@[simp] theorem finish128_reply (c : Ctx128) (a b : DWord) (s : State) : (finish128 c a b s).reply = s.reply := rfl
@[simp] theorem finish128_resets (c : Ctx128) (a b : DWord) (s : State) : (finish128 c a b s).resets = s.resets := rfl

@[simp] theorem succeedKdata_ctx32 (a b : Word) (s : State) : (succeedKdata a b s).ctx32 = s.ctx32 := rfl
@[simp] theorem succeedKdata_ctx128 (a b : Word) (s : State) : (succeedKdata a b s).ctx128 = s.ctx128 := rfl
@[simp] theorem succeedKdata_seed (a b : Word) (s : State) : (succeedKdata a b s).seed = s.seed := rfl
@[simp] theorem succeedKdata_kdata0 (a b : Word) (s : State) : (succeedKdata a b s).kdata0 = a := rfl
@[simp] theorem succeedKdata_kdata1 (a b : Word) (s : State) : (succeedKdata a b s).kdata1 = b := rfl
@[simp] theorem succeedKdata_kdata2 (a b : Word) (s : State) : (succeedKdata a b s).kdata2 = s.kdata2 := rfl
@[simp] theorem succeedKdata_kdata3 (a b : Word) (s : State) : (succeedKdata a b s).kdata3 = s.kdata3 := rfl
@[simp] theorem succeedKdata_foff (a b : Word) (s : State) : (succeedKdata a b s).foff = s.foff := rfl
@[simp] theorem succeedKdata_flen (a b : Word) (s : State) : (succeedKdata a b s).flen = s.flen := rfl
@[simp] theorem succeedKdata_dig32 (a b : Word) (s : State) : (succeedKdata a b s).dig32 = s.dig32 := rfl
@[simp] theorem succeedKdata_dig128_0 (a b : Word) (s : State) : (succeedKdata a b s).dig128_0 = s.dig128_0 := rfl
@[simp] theorem succeedKdata_dig128_1 (a b : Word) (s : State) : (succeedKdata a b s).dig128_1 = s.dig128_1 := rfl
@[simp] theorem succeedKdata_dig128_2 (a b : Word) (s : State) : (succeedKdata a b s).dig128_2 = s.dig128_2 := rfl
@[simp] theorem succeedKdata_dig128_3 (a b : Word) (s : State) : (succeedKdata a b s).dig128_3 = s.dig128_3 := rfl
@[simp] theorem succeedKdata_lastErr (a b : Word) (s : State) : (succeedKdata a b s).lastErr = 0 := rfl
@[simp] theorem succeedKdata_errSeen (a b : Word) (s : State) : (succeedKdata a b s).errSeen = s.errSeen := rfl
@[simp] theorem succeedKdata_ibuf (a b : Word) (s : State) : (succeedKdata a b s).ibuf = s.ibuf := rfl
@[simp] theorem succeedKdata_params (a b : Word) (s : State) : (succeedKdata a b s).params = s.params := rfl
@[simp] theorem succeedKdata_pending (a b : Word) (s : State) : (succeedKdata a b s).pending = s.pending := rfl
@[simp] theorem succeedKdata_reply (a b : Word) (s : State) : (succeedKdata a b s).reply = s.reply := rfl
@[simp] theorem succeedKdata_resets (a b : Word) (s : State) : (succeedKdata a b s).resets = s.resets := rfl

@[simp] theorem raise_ctx32 (e : CmdError) (s : State) : (raise e s).ctx32 = s.ctx32 := rfl
@[simp] theorem raise_ctx128 (e : CmdError) (s : State) : (raise e s).ctx128 = s.ctx128 := rfl
@[simp] theorem raise_seed (e : CmdError) (s : State) : (raise e s).seed = s.seed := rfl
@[simp] theorem raise_kdata0 (e : CmdError) (s : State) : (raise e s).kdata0 = s.kdata0 := rfl
@[simp] theorem raise_kdata1 (e : CmdError) (s : State) : (raise e s).kdata1 = s.kdata1 := rfl
@[simp] theorem raise_kdata2 (e : CmdError) (s : State) : (raise e s).kdata2 = s.kdata2 := rfl
@[simp] theorem raise_kdata3 (e : CmdError) (s : State) : (raise e s).kdata3 = s.kdata3 := rfl
@[simp] theorem raise_foff (e : CmdError) (s : State) : (raise e s).foff = s.foff := rfl
@[simp] theorem raise_flen (e : CmdError) (s : State) : (raise e s).flen = s.flen := rfl
@[simp] theorem raise_dig32 (e : CmdError) (s : State) : (raise e s).dig32 = s.dig32 := rfl
@[simp] theorem raise_dig128_0 (e : CmdError) (s : State) : (raise e s).dig128_0 = s.dig128_0 := rfl
@[simp] theorem raise_dig128_1 (e : CmdError) (s : State) : (raise e s).dig128_1 = s.dig128_1 := rfl
@[simp] theorem raise_dig128_2 (e : CmdError) (s : State) : (raise e s).dig128_2 = s.dig128_2 := rfl
@[simp] theorem raise_dig128_3 (e : CmdError) (s : State) : (raise e s).dig128_3 = s.dig128_3 := rfl
@[simp] theorem raise_lastErr (e : CmdError) (s : State) : (raise e s).lastErr = e.code := rfl
@[simp] theorem raise_errSeen (e : CmdError) (s : State) : (raise e s).errSeen = true := rfl
@[simp] theorem raise_ibuf (e : CmdError) (s : State) : (raise e s).ibuf = s.ibuf := rfl
@[simp] theorem raise_params (e : CmdError) (s : State) : (raise e s).params = s.params := rfl
@[simp] theorem raise_pending (e : CmdError) (s : State) : (raise e s).pending = s.pending := rfl
@[simp] theorem raise_reply (e : CmdError) (s : State) : (raise e s).reply = s.reply := rfl
@[simp] theorem raise_resets (e : CmdError) (s : State) : (raise e s).resets = s.resets := rfl

@[simp] theorem State.setIbuf_ctx32 (s : State) (m : List Host.Cell) : (s.setIbuf m).ctx32 = s.ctx32 := rfl
@[simp] theorem State.setIbuf_ctx128 (s : State) (m : List Host.Cell) : (s.setIbuf m).ctx128 = s.ctx128 := rfl
@[simp] theorem State.setIbuf_seed (s : State) (m : List Host.Cell) : (s.setIbuf m).seed = s.seed := rfl
@[simp] theorem State.setIbuf_kdata0 (s : State) (m : List Host.Cell) : (s.setIbuf m).kdata0 = s.kdata0 := rfl
@[simp] theorem State.setIbuf_kdata1 (s : State) (m : List Host.Cell) : (s.setIbuf m).kdata1 = s.kdata1 := rfl
@[simp] theorem State.setIbuf_kdata2 (s : State) (m : List Host.Cell) : (s.setIbuf m).kdata2 = s.kdata2 := rfl
@[simp] theorem State.setIbuf_kdata3 (s : State) (m : List Host.Cell) : (s.setIbuf m).kdata3 = s.kdata3 := rfl
@[simp] theorem State.setIbuf_foff (s : State) (m : List Host.Cell) : (s.setIbuf m).foff = s.foff := rfl
@[simp] theorem State.setIbuf_flen (s : State) (m : List Host.Cell) : (s.setIbuf m).flen = s.flen := rfl
@[simp] theorem State.setIbuf_dig32 (s : State) (m : List Host.Cell) : (s.setIbuf m).dig32 = s.dig32 := rfl
@[simp] theorem State.setIbuf_dig128_0 (s : State) (m : List Host.Cell) : (s.setIbuf m).dig128_0 = s.dig128_0 := rfl
@[simp] theorem State.setIbuf_dig128_1 (s : State) (m : List Host.Cell) : (s.setIbuf m).dig128_1 = s.dig128_1 := rfl
@[simp] theorem State.setIbuf_dig128_2 (s : State) (m : List Host.Cell) : (s.setIbuf m).dig128_2 = s.dig128_2 := rfl
@[simp] theorem State.setIbuf_dig128_3 (s : State) (m : List Host.Cell) : (s.setIbuf m).dig128_3 = s.dig128_3 := rfl
@[simp] theorem State.setIbuf_lastErr (s : State) (m : List Host.Cell) : (s.setIbuf m).lastErr = s.lastErr := rfl
@[simp] theorem State.setIbuf_errSeen (s : State) (m : List Host.Cell) : (s.setIbuf m).errSeen = s.errSeen := rfl
@[simp] theorem State.setIbuf_ibuf (s : State) (m : List Host.Cell) : (s.setIbuf m).ibuf = m := rfl
@[simp] theorem State.setIbuf_params (s : State) (m : List Host.Cell) : (s.setIbuf m).params = s.params := rfl
@[simp] theorem State.setIbuf_pending (s : State) (m : List Host.Cell) : (s.setIbuf m).pending = s.pending := rfl
@[simp] theorem State.setIbuf_reply (s : State) (m : List Host.Cell) : (s.setIbuf m).reply = s.reply := rfl
@[simp] theorem State.setIbuf_resets (s : State) (m : List Host.Cell) : (s.setIbuf m).resets = s.resets := rfl

@[simp] theorem State.setReply_ctx32 (s : State) (r : Reply) : (s.setReply r).ctx32 = s.ctx32 := rfl
@[simp] theorem State.setReply_ctx128 (s : State) (r : Reply) : (s.setReply r).ctx128 = s.ctx128 := rfl
@[simp] theorem State.setReply_seed (s : State) (r : Reply) : (s.setReply r).seed = s.seed := rfl
@[simp] theorem State.setReply_kdata0 (s : State) (r : Reply) : (s.setReply r).kdata0 = s.kdata0 := rfl
@[simp] theorem State.setReply_kdata1 (s : State) (r : Reply) : (s.setReply r).kdata1 = s.kdata1 := rfl
@[simp] theorem State.setReply_kdata2 (s : State) (r : Reply) : (s.setReply r).kdata2 = s.kdata2 := rfl
@[simp] theorem State.setReply_kdata3 (s : State) (r : Reply) : (s.setReply r).kdata3 = s.kdata3 := rfl
@[simp] theorem State.setReply_foff (s : State) (r : Reply) : (s.setReply r).foff = s.foff := rfl
@[simp] theorem State.setReply_flen (s : State) (r : Reply) : (s.setReply r).flen = s.flen := rfl
@[simp] theorem State.setReply_dig32 (s : State) (r : Reply) : (s.setReply r).dig32 = s.dig32 := rfl
@[simp] theorem State.setReply_dig128_0 (s : State) (r : Reply) : (s.setReply r).dig128_0 = s.dig128_0 := rfl
@[simp] theorem State.setReply_dig128_1 (s : State) (r : Reply) : (s.setReply r).dig128_1 = s.dig128_1 := rfl
@[simp] theorem State.setReply_dig128_2 (s : State) (r : Reply) : (s.setReply r).dig128_2 = s.dig128_2 := rfl
@[simp] theorem State.setReply_dig128_3 (s : State) (r : Reply) : (s.setReply r).dig128_3 = s.dig128_3 := rfl
@[simp] theorem State.setReply_lastErr (s : State) (r : Reply) : (s.setReply r).lastErr = s.lastErr := rfl
@[simp] theorem State.setReply_errSeen (s : State) (r : Reply) : (s.setReply r).errSeen = s.errSeen := rfl
@[simp] theorem State.setReply_ibuf (s : State) (r : Reply) : (s.setReply r).ibuf = s.ibuf := rfl
@[simp] theorem State.setReply_params (s : State) (r : Reply) : (s.setReply r).params = s.params := rfl
@[simp] theorem State.setReply_pending (s : State) (r : Reply) : (s.setReply r).pending = s.pending := rfl
@[simp] theorem State.setReply_reply (s : State) (r : Reply) : (s.setReply r).reply = r := rfl
@[simp] theorem State.setReply_resets (s : State) (r : Reply) : (s.setReply r).resets = s.resets := rfl

@[simp] theorem State.setPending_ctx32 (s : State) (es : List HostEvent) : (s.setPending es).ctx32 = s.ctx32 := rfl
@[simp] theorem State.setPending_ctx128 (s : State) (es : List HostEvent) : (s.setPending es).ctx128 = s.ctx128 := rfl
@[simp] theorem State.setPending_seed (s : State) (es : List HostEvent) : (s.setPending es).seed = s.seed := rfl
@[simp] theorem State.setPending_kdata0 (s : State) (es : List HostEvent) : (s.setPending es).kdata0 = s.kdata0 := rfl
@[simp] theorem State.setPending_kdata1 (s : State) (es : List HostEvent) : (s.setPending es).kdata1 = s.kdata1 := rfl
@[simp] theorem State.setPending_kdata2 (s : State) (es : List HostEvent) : (s.setPending es).kdata2 = s.kdata2 := rfl
@[simp] theorem State.setPending_kdata3 (s : State) (es : List HostEvent) : (s.setPending es).kdata3 = s.kdata3 := rfl
@[simp] theorem State.setPending_foff (s : State) (es : List HostEvent) : (s.setPending es).foff = s.foff := rfl
@[simp] theorem State.setPending_flen (s : State) (es : List HostEvent) : (s.setPending es).flen = s.flen := rfl
@[simp] theorem State.setPending_dig32 (s : State) (es : List HostEvent) : (s.setPending es).dig32 = s.dig32 := rfl
@[simp] theorem State.setPending_dig128_0 (s : State) (es : List HostEvent) : (s.setPending es).dig128_0 = s.dig128_0 := rfl
@[simp] theorem State.setPending_dig128_1 (s : State) (es : List HostEvent) : (s.setPending es).dig128_1 = s.dig128_1 := rfl
@[simp] theorem State.setPending_dig128_2 (s : State) (es : List HostEvent) : (s.setPending es).dig128_2 = s.dig128_2 := rfl
@[simp] theorem State.setPending_dig128_3 (s : State) (es : List HostEvent) : (s.setPending es).dig128_3 = s.dig128_3 := rfl
@[simp] theorem State.setPending_lastErr (s : State) (es : List HostEvent) : (s.setPending es).lastErr = s.lastErr := rfl
@[simp] theorem State.setPending_errSeen (s : State) (es : List HostEvent) : (s.setPending es).errSeen = s.errSeen := rfl
@[simp] theorem State.setPending_ibuf (s : State) (es : List HostEvent) : (s.setPending es).ibuf = s.ibuf := rfl
@[simp] theorem State.setPending_params (s : State) (es : List HostEvent) : (s.setPending es).params = s.params := rfl
@[simp] theorem State.setPending_pending (s : State) (es : List HostEvent) : (s.setPending es).pending = es := rfl
@[simp] theorem State.setPending_reply (s : State) (es : List HostEvent) : (s.setPending es).reply = s.reply := rfl
@[simp] theorem State.setPending_resets (s : State) (es : List HostEvent) : (s.setPending es).resets = s.resets := rfl

@[simp] theorem Ctx32.absorbed_h (c : Ctx32) (h : Word) (n : Nat) (t : Bool) : (c.absorbed h n t).h = h := rfl
@[simp] theorem Ctx32.absorbed_len (c : Ctx32) (h : Word) (n : Nat) (t : Bool) : (c.absorbed h n t).len = c.len + BitVec.ofNat 32 n := rfl
@[simp] theorem Ctx32.absorbed_final (c : Ctx32) (h : Word) (n : Nat) (t : Bool) : (c.absorbed h n t).final = c.final := rfl
@[simp] theorem Ctx32.absorbed_ts (c : Ctx32) (h : Word) (n : Nat) (t : Bool) : (c.absorbed h n t).ts = tsAfter c.ts t := rfl
@[simp] theorem Ctx32.absorbed_nonstd (c : Ctx32) (h : Word) (n : Nat) (t : Bool) : (c.absorbed h n t).nonstd = nonstdAfter c.ts c.nonstd n := rfl

@[simp] theorem Ctx128.absorbed_h1 (c : Ctx128) (h : DWord × DWord) (n : Nat) (t : Bool) : (c.absorbed h n t).h1 = h.1 := rfl
@[simp] theorem Ctx128.absorbed_h2 (c : Ctx128) (h : DWord × DWord) (n : Nat) (t : Bool) : (c.absorbed h n t).h2 = h.2 := rfl
@[simp] theorem Ctx128.absorbed_len (c : Ctx128) (h : DWord × DWord) (n : Nat) (t : Bool) : (c.absorbed h n t).len = c.len + BitVec.ofNat 32 n := rfl
@[simp] theorem Ctx128.absorbed_final (c : Ctx128) (h : DWord × DWord) (n : Nat) (t : Bool) : (c.absorbed h n t).final = c.final := rfl
@[simp] theorem Ctx128.absorbed_ts (c : Ctx128) (h : DWord × DWord) (n : Nat) (t : Bool) : (c.absorbed h n t).ts = tsAfter c.ts t := rfl
@[simp] theorem Ctx128.absorbed_nonstd (c : Ctx128) (h : DWord × DWord) (n : Nat) (t : Bool) : (c.absorbed h n t).nonstd = nonstdAfter c.ts c.nonstd n := rfl

end Sys2Proof.Machine
end

