-- ==== Sys2Proof/Laws/Ops.lean ====
section
/-! SUPPORT. One lemma for each shared operation, saying once everything it can do: `admission`, `unlessRaised`, `mapNext`,
the error codes, and, from these, what each kind of command can answer. -/

namespace Sys2Proof.Machine

theorem CmdError.code_ne_zero (e : CmdError) : e.code ≠ 0 := by cases e <;> decide

theorem CmdError.code_le (e : CmdError) : e.code.toNat ≤ 5 := by cases e <;> decide

/-- `admission` passes exactly when no check of 60_exceptions.md R206 fails. -/
theorem admit_none_iff (final ts : Bool) (len : Word) (op : AdmitOp) (n : Nat) (s : State) :
    admission final ts len op n s = none ↔
      final = false ∧ (op = .feed → s.foff.toNat + s.flen.toNat ≤ s.params.ibufSize) ∧
      (op ≠ .fin → (ts = true → n = 0 ∨ s.params.tailPolicy = .reference) ∧ len.toNat + n ≤ 4294967295) := by
  unfold admission
  cases final <;> cases ts <;> cases op <;> cases hp : s.params.tailPolicy <;>
    simp <;> (try split) <;> (try split) <;> simp_all <;> omega

/-- The first check (60_exceptions.md R202). -/
theorem admit_of_final {final : Bool} (ts : Bool) (len : Word) (op : AdmitOp) (n : Nat) (s : State)
    (h : final = true) : admission final ts len op n s = some .misuseFinalized := by
  simp [admission, h]

/-- The second check (60_exceptions.md R203). -/
theorem admit_of_range {final : Bool} (ts : Bool) (len : Word) (n : Nat) (s : State)
    (h : final = false) (hr : s.params.ibufSize < s.foff.toNat + s.flen.toNat) :
    admission final ts len .feed n s = some .invalidArgument := by
  simp [admission, h, hr]

/-- The third check (60_exceptions.md R204). -/
theorem admit_of_tail {final ts : Bool} (len : Word) {op : AdmitOp} {n : Nat} (s : State)
    (h : final = false) (hr : op = .feed → s.foff.toNat + s.flen.toNat ≤ s.params.ibufSize) (ho : op ≠ .fin)
    (hn : 0 < n) (ht : ts = true) (hp : s.params.tailPolicy = .fault) :
    admission final ts len op n s = some .misuseTailNotLast := by
  have hr' : ¬(op = .feed ∧ s.params.ibufSize < s.foff.toNat + s.flen.toNat) := by
    rintro ⟨h1, h2⟩
    have := hr h1
    omega
  rw [admission, h, if_neg (by simp), if_neg hr', if_pos ⟨ho, hn, ht, hp⟩]

/-- The fourth check (60_exceptions.md R207). -/
theorem admit_of_overflow {final ts : Bool} {len : Word} {op : AdmitOp} {n : Nat} (s : State)
    (h : final = false) (hr : op = .feed → s.foff.toNat + s.flen.toNat ≤ s.params.ibufSize) (ho : op ≠ .fin)
    (ht : ts = true → n = 0 ∨ s.params.tailPolicy = .reference) (hl : 4294967295 < len.toNat + n) :
    admission final ts len op n s = some .lengthOverflow := by
  have hr' : ¬(op = .feed ∧ s.params.ibufSize < s.foff.toNat + s.flen.toNat) := by
    rintro ⟨h1, h2⟩
    have := hr h1
    omega
  have ht' : ¬(op ≠ .fin ∧ 0 < n ∧ ts = true ∧ s.params.tailPolicy = .fault) := by
    rintro ⟨_, h1, h2, h3⟩
    rcases ht h2 with h4 | h4
    · omega
    · rw [h3] at h4
      cases h4
  rw [admission, h, if_neg (by simp), if_neg hr', if_neg ht', if_pos ⟨ho, hl⟩]

/-- What `admission` raises is no `ILLEGAL_COMMAND`: that error is the decoder's (60_exceptions.md R206). -/
theorem admit_ne_illegal (final ts : Bool) (len : Word) (op : AdmitOp) (n : Nat) (s : State) :
    admission final ts len op n s ≠ some .illegalCommand := by
  unfold admission
  split
  · simp
  · split
    · simp
    · split
      · simp
      · split <;> simp

/-- `unlessRaised` answers next in one of two ways. -/
theorem unlessRaised_next {c : Option CmdError} {s t : State} {k : Host.Outcome State Fault Refusal}
    (h : unlessRaised c s k = .next t) : (∃ e, c = some e ∧ t = raise e s) ∨ (c = none ∧ k = .next t) := by
  cases c with
  | none => exact .inr ⟨rfl, h⟩
  | some e => exact .inl ⟨e, rfl, by cases h; rfl⟩

theorem unlessRaised_fault {c : Option CmdError} {s : State} {k : Host.Outcome State Fault Refusal} {f : Fault}
    (h : unlessRaised c s k = .fault f) : c = none ∧ k = .fault f := by
  cases c with
  | none => exact ⟨rfl, h⟩
  | some e => cases h

theorem unlessRaised_refused {c : Option CmdError} {s : State} {k : Host.Outcome State Fault Refusal} {r : Refusal}
    (h : unlessRaised c s k = .refused r) : c = none ∧ k = .refused r := by
  cases c with
  | none => exact ⟨rfl, h⟩
  | some e => cases h

theorem mapNext_next {f : State → State} {o : Host.Outcome State Fault Refusal} {t : State}
    (h : mapNext f o = .next t) : ∃ u, o = .next u ∧ t = f u := by
  cases o with
  | next u => exact ⟨u, rfl, by cases h; rfl⟩
  | fault r => cases h
  | refused r => cases h

/-- Every answer of a BLOCK32. -/
theorem execBlock32_next {s t : State} (h : execBlock32 s = .next t) :
    (∃ e, admit32 .block 4 s = some e ∧ t = raise e s) ∨
    (admit32 .block 4 s = none ∧
      t = succeed32 (s.ctx32.absorbed (block32 s.ctx32.h s.kdata0) 4 false) s) := by
  rcases unlessRaised_next h with h | ⟨h, hk⟩
  · exact .inl h
  · exact .inr ⟨h, (Host.Outcome.next.inj hk).symm⟩

/-- Every answer of a TAIL32. -/
theorem execTail32_next {n : BitVec 4} {s t : State} (h : execTail32 n s = .next t) :
    (∃ e, t = raise e s) ∨
    (admit32 .tail n.toNat s = none ∧
      t = succeed32
        (s.ctx32.absorbed (tail32 s.ctx32.h (stagingBytes s n.toNat)) n.toNat true) s) := by
  rcases unlessRaised_next h with ⟨e, _, h⟩ | ⟨_, hk⟩
  · exact .inl ⟨e, h⟩
  · rcases unlessRaised_next hk with ⟨e, _, h⟩ | ⟨h, hk⟩
    · exact .inl ⟨e, h⟩
    · exact .inr ⟨h, (Host.Outcome.next.inj hk).symm⟩

/-- Every next state of a FEED32. -/
theorem execFeed32_next {s t : State} (h : execFeed32 s = .next t) :
    (∃ e, admit32 .feed s.flen.toNat s = some e ∧ t = raise e s) ∨
    (∃ bs, admit32 .feed s.flen.toNat s = none ∧ feedBytes s = some bs ∧
      t = succeed32
        (s.ctx32.absorbed (absorb32 bs s.ctx32.h) s.flen.toNat (decide (s.flen.toNat % 4 ≠ 0))) s) := by
  rcases unlessRaised_next h with h | ⟨h, hk⟩
  · exact .inl h
  · split at hk
    · cases hk
    · rename_i bs hb
      exact .inr ⟨bs, h, hb, (Host.Outcome.next.inj hk).symm⟩

/-- Every answer of a BLOCK128. -/
theorem execBlock128_next {s t : State} (h : execBlock128 s = .next t) :
    (∃ e, admit128 .block 16 s = some e ∧ t = raise e s) ∨
    (admit128 .block 16 s = none ∧
      t = succeed128
        (s.ctx128.absorbed (block128 (s.ctx128.h1, s.ctx128.h2) (stagedK1 s) (stagedK2 s)) 16 false) s) := by
  rcases unlessRaised_next h with h | ⟨h, hk⟩
  · exact .inl h
  · exact .inr ⟨h, (Host.Outcome.next.inj hk).symm⟩

/-- Every answer of a TAIL128. -/
theorem execTail128_next {n : BitVec 4} {s t : State} (h : execTail128 n s = .next t) :
    (∃ e, t = raise e s) ∨
    (admit128 .tail n.toNat s = none ∧
      t = succeed128
        (s.ctx128.absorbed (tail128 (s.ctx128.h1, s.ctx128.h2) (stagingBytes s n.toNat)) n.toNat true) s) := by
  rcases unlessRaised_next h with ⟨e, _, h⟩ | ⟨_, hk⟩
  · exact .inl ⟨e, h⟩
  · rcases unlessRaised_next hk with ⟨e, _, h⟩ | ⟨h, hk⟩
    · exact .inl ⟨e, h⟩
    · exact .inr ⟨h, (Host.Outcome.next.inj hk).symm⟩

/-- Every next state of a FEED128. -/
theorem execFeed128_next {s t : State} (h : execFeed128 s = .next t) :
    (∃ e, admit128 .feed s.flen.toNat s = some e ∧ t = raise e s) ∨
    (∃ bs, admit128 .feed s.flen.toNat s = none ∧ feedBytes s = some bs ∧
      t = succeed128
        (s.ctx128.absorbed (absorb128 bs (s.ctx128.h1, s.ctx128.h2)) s.flen.toNat
          (decide (s.flen.toNat % 16 ≠ 0))) s) := by
  rcases unlessRaised_next h with h | ⟨h, hk⟩
  · exact .inl h
  · split at hk
    · cases hk
    · rename_i bs hb
      exact .inr ⟨bs, h, hb, (Host.Outcome.next.inj hk).symm⟩

/-- Every answer of a FIN32. -/
theorem execFin32_next {s t : State} (h : execFin32 s = .next t) :
    (∃ e, admit32 .fin 0 s = some e ∧ t = raise e s) ∨
    (admit32 .fin 0 s = none ∧
      t = finish32 { s.ctx32 with h := fmix32 (s.ctx32.h ^^^ s.ctx32.len), final := true }
        (fmix32 (s.ctx32.h ^^^ s.ctx32.len)) s) := by
  rcases unlessRaised_next h with h | ⟨h, hk⟩
  · exact .inl h
  · exact .inr ⟨h, (Host.Outcome.next.inj hk).symm⟩

/-- Every answer of a FIN128. -/
theorem execFin128_next {s t : State} (h : execFin128 s = .next t) :
    (∃ e, admit128 .fin 0 s = some e ∧ t = raise e s) ∨
    (admit128 .fin 0 s = none ∧
      t = finish128
        { s.ctx128 with
          h1 := (fin128 s.ctx128.h1 s.ctx128.h2 s.ctx128.len).1
          h2 := (fin128 s.ctx128.h1 s.ctx128.h2 s.ctx128.len).2
          final := true }
        (fin128 s.ctx128.h1 s.ctx128.h2 s.ctx128.len).1 (fin128 s.ctx128.h1 s.ctx128.h2 s.ctx128.len).2 s) := by
  rcases unlessRaised_next h with h | ⟨h, hk⟩
  · exact .inl h
  · exact .inr ⟨h, (Host.Outcome.next.inj hk).symm⟩

end Sys2Proof.Machine
end

