-- ==== Sys2Proof/Laws/PerInstr.lean ====
section
/-! SUPPORT. Facts about every command as syntax, one lemma per constructor. Family `EncodeReservedZero`: the reserved
fields `RZ0` and `RZ1` of a command's word are 0 (30_encoding.md R71). -/

namespace Sys2Proof.Laws.EncodeReservedZero

/-- Bits 7:5 and 31:12 of the command's word are 0. -/
def Statement (i : Instr) : Prop := rz0Field (encode i) = 0 ∧ rz1Field (encode i) = 0

theorem init32 : Statement .init32 := by unfold Statement; decide

theorem block32 : Statement .block32 := by unfold Statement; decide

theorem tail32 (n : BitVec 4) : Statement (.tail32 n) := by unfold Statement; revert n; decide

theorem feed32 : Statement .feed32 := by unfold Statement; decide

theorem init128 : Statement .init128 := by unfold Statement; decide

theorem block128 : Statement .block128 := by unfold Statement; decide

theorem tail128 (n : BitVec 4) : Statement (.tail128 n) := by unfold Statement; revert n; decide

theorem feed128 : Statement .feed128 := by unfold Statement; decide

theorem fin32 : Statement .fin32 := by unfold Statement; decide

theorem fin128 : Statement .fin128 := by unfold Statement; decide

theorem fmix32 : Statement .fmix32 := by unfold Statement; decide

theorem fmix64 : Statement .fmix64 := by unfold Statement; decide

end Sys2Proof.Laws.EncodeReservedZero
end

