-- ==== Sys2Proof/Laws/Port.lean ====
section
/-! SUPPORT. What the host port can do: the register map's lookup, and one inversion lemma each for register writes,
window writes and the service of an event. -/

namespace Sys2Proof.Machine

theorem regAt_regOffset (r : Reg) : regAt (regOffset r) = some r := by cases r <;> decide

theorem regOffset_of_regAt {off : Nat} {r : Reg} (h : regAt off = some r) : regOffset r = off := by
  have := List.find?_some h
  simpa using this

theorem regOffset_lt (r : Reg) : regOffset r < 0x1000 := by cases r <;> decide

theorem regOffset_injective {r r' : Reg} (h : regOffset r = regOffset r') : r = r' := by
  have := regAt_regOffset r
  rw [h, regAt_regOffset] at this
  exact (Option.some.inj this).symm

/-- A register write is a bus error, issues a command, or stores into one operand register. -/
theorem writeReg_cases (r : Reg) (v : Word) (s : State) :
    writeReg r v s = .refused .busError ∨
    (r = .cmd ∧ writeReg r v s = issueCommand v s) ∨
    (∃ t, writeReg r v s = .next t ∧
      (t = { s with seed := v } ∨ t = { s with kdata0 := v } ∨ t = { s with kdata1 := v } ∨
       t = { s with kdata2 := v } ∨ t = { s with kdata3 := v } ∨ t = { s with foff := v } ∨
       t = { s with flen := v })) := by
  cases r <;> simp [writeReg]

/-- A window write is a bus error, a register write, or a store into `IBUF`. -/
theorem windowWrite_cases (off size : Nat) (v : Word) (s : State) :
    windowWrite off size v s = .refused .busError ∨
    (∃ r, size = 4 ∧ regOffset r = off ∧ windowWrite off size v s = writeReg r v s) ∨
    (0x1000 ≤ off ∧ ibufAccepts s.params (off - 0x1000) size = true ∧
      windowWrite off size v s = .next (s.setIbuf (writeBytes s.ibuf (off - 0x1000) v size))) := by
  unfold windowWrite
  split
  · split
    · rename_i hs
      split
      · rename_i r hr
        exact .inr (.inl ⟨r, hs, regOffset_of_regAt hr, rfl⟩)
      · exact .inl rfl
    · exact .inl rfl
  · rename_i ho
    split
    · rename_i ha
      exact .inr (.inr ⟨by omega, ha, rfl⟩)
    · exact .inl rfl

/-- Everything a served event can leave: an answered read or an access elsewhere changes only the reply; a write is a
window write; a reset leaves the reset state. -/
theorem serve_next {e : HostEvent} {s t : State} (h : serve e s = .next t) :
    (∃ r, t = s.setReply r) ∨
    (∃ addr size v u, e = .write addr size v ∧ InWindow s.params addr ∧
      windowWrite (addr - s.params.base) size v s = .next u ∧ t = u.setReply .written) ∨
    (e = .reset ∧ t = State.afterReset s.params s.pending (s.resets + 1)) := by
  cases e with
  | read addr size =>
    simp only [serve] at h
    split at h
    · split at h
      · cases h
        exact .inl ⟨_, rfl⟩
      · cases h
    · cases h
      exact .inl ⟨_, rfl⟩
  | write addr size v =>
    simp only [serve] at h
    split at h
    · rename_i hw
      obtain ⟨u, hu, ht⟩ := mapNext_next h
      exact .inr (.inl ⟨addr, size, v, u, rfl, hw, hu, ht⟩)
    · cases h
      exact .inl ⟨_, rfl⟩
  | reset =>
    cases h
    exact .inr (.inr ⟨rfl, rfl⟩)

/-- Every next state of a step: nothing pending and nothing changed, or the oldest event served. -/
theorem step_next {s t : State} (h : step s = .next t) :
    (s.pending = [] ∧ t = s) ∨ (∃ e es, s.pending = e :: es ∧ serve e (s.setPending es) = .next t) := by
  unfold step servePending at h
  split at h
  · rename_i hp
    cases h
    exact .inl ⟨hp, rfl⟩
  · rename_i e es hp
    exact .inr ⟨e, es, hp, h⟩

/-- A write of a word to `CMD` is served by issuing it. -/
theorem serve_commandWrite (w : Word) (s : State) :
    serve (commandWrite s.params w) s = mapNext (fun t => t.setReply .written) (issueCommand w s) := by
  have hw : InWindow s.params (s.params.base + regOffset .cmd) := by
    have := regOffset_lt .cmd
    exact ⟨by omega, by omega⟩
  have hoff : s.params.base + regOffset .cmd - s.params.base = regOffset .cmd := by omega
  simp only [serve, commandWrite, if_pos hw, hoff]
  have : windowWrite (regOffset .cmd) 4 w s = issueCommand w s := by
    unfold windowWrite
    rw [if_pos (regOffset_lt .cmd), if_pos rfl, regAt_regOffset]
    rfl
  rw [this]

/-- Everything a step can do to the block: nothing but to the operand registers, the input buffer and the model's own
fields; a reset; or a command issued through `CMD`. -/
theorem step_cases {s t : State} (h : step s = .next t) :
    (t = { s with seed := t.seed, kdata0 := t.kdata0, kdata1 := t.kdata1, kdata2 := t.kdata2, kdata3 := t.kdata3,
                  foff := t.foff, flen := t.flen, ibuf := t.ibuf, pending := t.pending, reply := t.reply }) ∨
    (∃ rest, s.pending = .reset :: rest ∧ t = State.afterReset s.params rest (s.resets + 1)) ∨
    (∃ w rest u, s.pending = .write (s.params.base + 0x008) 4 w :: rest ∧
      issueCommand w (s.setPending rest) = .next u ∧ t = u.setReply .written) := by
  rcases step_next h with ⟨_, rfl⟩ | ⟨e, es, hp, hs⟩
  · exact .inl rfl
  · rcases serve_next hs with ⟨r, rfl⟩ | ⟨addr, size, v, u, rfl, hw, hu, rfl⟩ | ⟨rfl, rfl⟩
    · exact .inl rfl
    · rcases windowWrite_cases (addr - (s.setPending es).params.base) size v (s.setPending es) with
        hb | ⟨r, rfl, hr, hb⟩ | ⟨_, _, hb⟩
      · rw [hb] at hu
        cases hu
      · rw [hb] at hu
        rcases writeReg_cases r v (s.setPending es) with hb | ⟨rfl, hb⟩ | ⟨t, hb, ht⟩
        · rw [hb] at hu
          cases hu
        · rw [hb] at hu
          refine .inr (.inr ⟨v, es, u, ?_, hu, rfl⟩)
          have ha : addr = s.params.base + 0x008 := by
            have h1 : addr - s.params.base = 0x008 := hr.symm
            have h2 : s.params.base ≤ addr := hw.1
            omega
          rw [hp, ha]
        · rw [hb] at hu
          cases hu
          rcases ht with rfl | rfl | rfl | rfl | rfl | rfl | rfl <;> exact .inl rfl
      · rw [hb] at hu
        cases hu
        exact .inl rfl
    · exact .inr (.inl ⟨es, hp, rfl⟩)

end Sys2Proof.Machine
end

