-- ==== Sys2Proof/Tests/Slice0.lean ====
section
/-! SUPPORT. Tests: ill-formed terms the check refuses, words written out from the spec's encodings, one-step tests with
expected values from spec/95_test_vectors.md, and for every statement with hypotheses a state that meets them. -/

namespace Sys2Proof.Tests

open Sys2Proof.Machine Sys2Proof.Safety

/-! ### WellFormed: the check refuses each kind of ill-formed term (30_encoding.md R74, R76) -/

theorem test_wf_tail32_zero_refused : (Instr.tail32 0).wellFormed = false := by decide
theorem test_wf_tail32_four_refused : (Instr.tail32 4).wellFormed = false := by decide
theorem test_wf_tail128_zero_refused : (Instr.tail128 0).wellFormed = false := by decide
theorem test_wf_tail_bounds_accepted :
    (Instr.tail32 1).wellFormed = true ∧ (Instr.tail32 3).wellFormed = true ∧
    (Instr.tail128 1).wellFormed = true ∧ (Instr.tail128 15).wellFormed = true := by decide

/-! ### Decoding: words written bit by bit from the fields of R71 and the OP, W, N columns of R74
(`RZ1` 31:12, `N` 11:8, `RZ0` 7:5, `W` 4, `OP` 3:0) -/

theorem test_decode_init32 : decode 0b00000000000000000000_0000_000_0_0001 = .command .init32 := by decide
theorem test_decode_block32 : decode 0b00000000000000000000_0000_000_0_0010 = .command .block32 := by decide
theorem test_decode_tail32_1 : decode 0b00000000000000000000_0001_000_0_0011 = .command (.tail32 1) := by decide
theorem test_decode_tail32_3 : decode 0b00000000000000000000_0011_000_0_0011 = .command (.tail32 3) := by decide
theorem test_decode_feed32 : decode 0b00000000000000000000_0000_000_0_0100 = .command .feed32 := by decide
theorem test_decode_init128 : decode 0b00000000000000000000_0000_000_1_0001 = .command .init128 := by decide
theorem test_decode_block128 : decode 0b00000000000000000000_0000_000_1_0010 = .command .block128 := by decide
theorem test_decode_tail128_5 : decode 0b00000000000000000000_0101_000_1_0011 = .command (.tail128 5) := by decide
theorem test_decode_tail128_15 : decode 0b00000000000000000000_1111_000_1_0011 = .command (.tail128 15) := by decide
theorem test_decode_feed128 : decode 0b00000000000000000000_0000_000_1_0100 = .command .feed128 := by decide
theorem test_decode_fin32 : decode 0b00000000000000000000_0000_000_0_0101 = .command .fin32 := by decide
theorem test_decode_fin128 : decode 0b00000000000000000000_0000_000_1_0101 = .command .fin128 := by decide
theorem test_decode_fmix32 : decode 0b00000000000000000000_0000_000_0_0110 = .command .fmix32 := by decide
theorem test_decode_fmix64 : decode 0b00000000000000000000_0000_000_1_0110 = .command .fmix64 := by decide

/-- One word of each illegal kind of R76 and R82. -/
theorem test_decode_illegal :
    decode 0x00000000 = .illegal .reservedOp ∧ decode 0x0000000F = .illegal .reservedOp ∧
    decode 0x00000021 = .illegal .reservedBits ∧ decode 0x80000001 = .illegal .reservedBits ∧
    decode 0x00001003 = .illegal .reservedBits ∧ decode 0x00000115 = .illegal .countNotZero ∧
    decode 0x00000003 = .illegal .tailCount ∧ decode 0x00000403 = .illegal .tailCount ∧
    decode 0x00000013 = .illegal .tailCount := by decide

theorem test_decodeTableWord :
    decodeTableWord 32 0x00000F13 = some (.tail128 15) ∧ decodeTableWord 32 0x00000000 = none := by decide

/-! ### Small states -/

/-- The next state, if the outcome is one. -/
def nextOf : Host.Outcome State Fault Refusal → Option State
  | .next t => some t
  | .fault _ => none
  | .refused _ => none

/-- A field of the state a command leaves. -/
def after {α : Type} (i : Instr) (s : State) (f : State → α) : Option α := (nextOf (exec i s)).map f

/-- The reset state with a 32-bit accumulator, its length and its three bits. -/
def at32 (h len : Word) (final ts nonstd : Bool) : State :=
  { State.reset with ctx32 := { h := h, len := len, final := final, ts := ts, nonstd := nonstd } }

/-- The reset state with 128-bit accumulators, their length and their three bits. -/
def at128 (h1 h2 : DWord) (len : Word) (final ts nonstd : Bool) : State :=
  { State.reset with ctx128 := { h1 := h1, h2 := h2, len := len, final := final, ts := ts, nonstd := nonstd } }

/-- The staging registers set. -/
def withKdata (d0 d1 d2 d3 : Word) (s : State) : State :=
  { s with kdata0 := d0, kdata1 := d1, kdata2 := d2, kdata3 := d3 }

/-- The bytes at `IBUF` offsets 0, 1, ... and a range for FEED. -/
def withInput (bs : List Byte) (off len : Word) (s : State) : State :=
  { s with ibuf := (List.range bs.length).zip bs, foff := off, flen := len }

/-- `TAIL_POLICY = REFERENCE`. -/
def underReference (s : State) : State := { s with params := { s.params with tailPolicy := .reference } }

/-- `SEED32_COMPAT = 1`. -/
def underCompat (s : State) : State := { s with params := { s.params with seed32Compat := true } }

/-- The port's next event. -/
def facing (e : HostEvent) (s : State) : State := { s with pending := [e] }

/-- The port's next event is the write of a command word (`BASE` is 0 in these states). -/
def issuing (w : Word) (s : State) : State := facing (.write 0x008 4 w) s

/-- "hello". -/
def hello : List Byte := [0x68, 0x65, 0x6c, 0x6c, 0x6f]

/-- Bytes 01..n. -/
def bytesTo (n : Nat) : List Byte := (List.range n).map (fun i => BitVec.ofNat 8 (i + 1))

/-! ### One step of each command, against 95_test_vectors.md -/

/-- Table 2.3 row 1. -/
theorem test_init32_loads_seed :
    after .init32 { State.reset with seed := 0x9747b28c } (fun t => t.ctx32)
      = some { h := 0x9747b28c, len := 0, final := false, ts := false, nonstd := false } := by decide

/-- Table 2.3 row 2. -/
theorem test_init32_compat_loads_zero :
    after .init32 (underCompat { State.reset with seed := 0x9747b28c }) (fun t => t.ctx32.h) = some 0 := by decide

/-- Table 2.1 row 5. -/
theorem test_block32_vector :
    after .block32 (withKdata 0x9abcdef0 0 0 0 (at32 0x12345678 0 false false false))
      (fun t => (t.ctx32.h, t.ctx32.len)) = some (0xe4f88c5a, 4) := by decide

/-- Table 2.3, the REFERENCE row: after TAIL32 1 of 0x61 from `h = 0`. -/
theorem test_block32_after_tail_reference :
    (nextOf (exec (.tail32 1) (underReference (withKdata 0x61 0 0 0 State.reset)))).bind (fun s =>
      after .block32 { s with kdata0 := 0x64636261 } (fun t => (t.ctx32.h, statusWord t)))
      = some (0xa6d1b2cb, 0x00000014) := by decide

/-- Table 2.3: TAIL32 3 reads no `S(3)`. -/
theorem test_tail32_ignores_high_byte :
    after (.tail32 3) (withKdata 0xff636261 0 0 0 State.reset) (fun t => (t.ctx32.h, t.ctx32.len, t.ctx32.ts))
      = some (0xa7349db7, 3, true) := by decide

/-- Table 2.3: the length reaches 0xffffffff and no error is raised. -/
theorem test_tail32_to_length_limit :
    after (.tail32 1) (at32 0 0xfffffffe false false false) (fun t => (t.ctx32.len, t.ctx32.ts, t.lastErr))
      = some (0xffffffff, true, 0) := by decide

/-- Table 2.3: "hello". -/
theorem test_feed32_hello :
    after .feed32 (withInput hello 0 5 State.reset) (fun t => (t.ctx32.h, t.ctx32.len, t.ctx32.ts))
      = some (0x9caf3fb3, 5, true) := by decide

/-- Table 2.3: the sum `FOFF + FLEN` does not wrap. -/
theorem test_feed32_range_sum_does_not_wrap :
    after .feed32 { State.reset with foff := 0xFFFFFFFF, flen := 1 } statusWord = some 0x00001100 := by decide

/-- Table 3.3 row 2: `SEED32_COMPAT` does not apply. -/
theorem test_init128_zero_extends_seed :
    after .init128 (underCompat { State.reset with seed := 0x9747b28c }) (fun t => (t.ctx128.h1, t.ctx128.h2))
      = some (0x000000009747b28c, 0x000000009747b28c) := by decide

/-- Table 3.3 row 3. -/
theorem test_block128_vector :
    after .block128 (withKdata 1 0 0 0 State.reset) (fun t => (t.ctx128.h1, t.ctx128.h2, t.ctx128.len))
      = some (0xc8dad7b91b1fffb1, 0xec46369dbfe9592a, 16) := by decide

/-- Table 3.1 row 5: all four staging words and a nonzero accumulator. -/
theorem test_block128_all_words :
    after .block128 (withKdata 0x03020100 0x07060504 0x0b0a0908 0x0f0e0d0c
      (at128 0x0706050403020100 0 0 false false false)) (fun t => (t.ctx128.h1, t.ctx128.h2))
      = some (0x7c84a036a4aca817, 0x91cc0b83dccd9045) := by decide

/-- Table 3.3: TAIL128 15 reads no `S(15)`. -/
theorem test_tail128_ignores_last_byte :
    after (.tail128 15) (withKdata 0x04030201 0x08070605 0x0c0b0a09 0xff0f0e0d State.reset)
      (fun t => (t.ctx128.h1, t.ctx128.h2, t.ctx128.len, t.ctx128.ts))
      = some (0x84912ea0966db987, 0x3e9927eb603cdcd6, 15, true) := by decide

/-- Table 3.2 row 9: the first byte of `k2`. -/
theorem test_tail128_nine_bytes :
    after (.tail128 9) (withKdata 0x04030201 0x08070605 0x0c0b0a09 0x000f0e0d State.reset)
      (fun t => (t.ctx128.h1, t.ctx128.h2)) = some (0x84912ea0966db987, 0x89dc47be9bfa8718) := by decide

/-- Table 3.3: bytes 01..11. -/
theorem test_feed128_block_and_tail :
    after .feed128 (withInput (bytesTo 17) 0 17 State.reset)
      (fun t => (t.ctx128.h1, t.ctx128.h2, t.ctx128.len, t.ctx128.ts))
      = some (0x1155499e74d2875d, 0x561de10afd457487, 17, true) := by decide

/-- R211: an admitted FEED of a byte nothing has written. -/
theorem test_feed128_unwritten_faults :
    exec .feed128 (withInput hello 0 6 State.reset) = .fault .uninitialisedIbuf := rfl

/-- Table 4.3 row 6. -/
theorem test_fin32_hello :
    after .fin32 (at32 0x9caf3fb3 5 false true false) (fun t => (t.dig32, t.ctx32.h, t.ctx32.final))
      = some (0x248bfa47, 0x248bfa47, true) := by decide

/-- R202: FIN32 is single-use. -/
theorem test_fin32_twice_is_misuse :
    after .fin32 (at32 7 0 true false false) (fun t => (t.dig32, t.lastErr, t.errSeen)) = some (0, 2, true) := by decide

/-- Table 4.4 row 6: the four digest words in order. -/
theorem test_fin128_hello :
    after .fin128 (at128 0x8c3f01c9e77511c7 0 5 false true false)
      (fun t => (t.dig128_0, t.dig128_1, t.dig128_2, t.dig128_3))
      = some (0x41bd9b02, 0xcbd8a7b3, 0x48ae1d19, 0x5b1e906a) := by decide

/-- Table 4.4 row 5: the length is zero-extended. -/
theorem test_fin128_long_length :
    after .fin128 (at128 0 0 0xffffffff false false false) (fun t => (t.ctx128.h1, t.ctx128.h2))
      = some (0x6af1df4d9d3bc9ec, 0x857421121ee6446b) := by decide

/-- Table 4.1 row 6. -/
theorem test_fmix32_vector :
    after .fmix32 (withKdata 0x12345678 9 0 0 State.reset) (fun t => (t.kdata0, t.kdata1))
      = some (0xe37cd1bc, 9) := by decide

/-- Table 4.2 row 6. -/
theorem test_fmix64_vector :
    after .fmix64 (withKdata 0x89abcdef 0x01234567 8 9 State.reset)
      (fun t => (t.kdata0, t.kdata1, t.kdata2, t.kdata3)) = some (0x89022cea, 0x87cbfbfe, 8, 9) := by decide

/-! ### The port -/

/-- The memory of `State.reset` has the canonical form. -/
theorem test_reset_memory_wf : Memory.wf State.reset.ibuf := by decide

/-- A 2-byte `IBUF` write then a 1-byte read of its upper byte (R52, R58). -/
theorem test_ibuf_mixed_widths :
    (nextOf (step (facing (asmWrh Params.default 2 0xBBAA) State.reset))).bind (fun s =>
      (nextOf (step (facing (asmRdb Params.default 3) s))).map (fun t => t.reply)) = some (.data 1 0xBB) := by decide

/-- R54: an access may not pass `IBUF_SIZE` (64 here). -/
theorem test_ibuf_past_end_is_bus_error :
    step (facing (.write (0x1000 + 64) 1 0) State.reset) = .refused .busError := rfl

/-- R53: a byte read of a register. -/
theorem test_register_byte_read_is_bus_error : step (facing (.read 0x004 1) State.reset) = .refused .busError := rfl

/-- R35. -/
theorem test_read_id :
    (nextOf (step (facing (asmRd Params.default .id) State.reset))).map (fun t => t.reply)
      = some (.data 4 0x33484D4D) := by decide

/-- R76: a stray zero write to `CMD` is caught; table 5: `STATUS` then reads 0x00001500. -/
theorem test_zero_command_is_illegal :
    (nextOf (step (issuing 0 State.reset))).map statusWord = some 0x00001500 := by decide

/-- R230: reset clears the sticky error bit. -/
theorem test_reset_clears_status :
    (nextOf (step (facing .reset (raise .illegalCommand State.reset)))).map statusWord = some 0 := by decide

/-- `withFetchWord` makes the very next step run the word: TAIL128 5 of table 3.3. -/
theorem test_withFetchWord_runs_word :
    (nextOf (step ((withKdata 0x6c6c6568 0x6f 0 0 State.reset).withFetchWord 32 0x00000513))).map
      (fun t => (t.ctx128.h1, t.ctx128.len)) = some (0x8c3f01c9e77511c7, 5) := by decide

/-! ### Witnesses: for every statement with hypotheses, states that meet each clause's hypotheses, at boundary values -/

/-- A state whose STATUS, digests and both contexts are away from reset: both contexts FINAL. -/
def bothFinal : State :=
  { State.reset with
    ctx32 := { h := 5, len := 4, final := true, ts := false, nonstd := false }
    ctx128 := { h1 := 7, h2 := 9, len := 16, final := true, ts := false, nonstd := false }
    dig32 := 5
    dig128_0 := 7
    dig128_2 := 9 }

/-- Both contexts have seen a tail; `CTX32.len` and `CTX128.len` as given. -/
def bothTail (len : Word) : State :=
  { State.reset with
    ctx32 := { h := 5, len := len, final := false, ts := true, nonstd := false }
    ctx128 := { h1 := 7, h2 := 9, len := len, final := false, ts := true, nonstd := false } }

/-- Both contexts in ABSORB with no tail seen and the length given. -/
def bothLen (len : Word) : State :=
  { State.reset with
    ctx32 := { h := 5, len := len, final := false, ts := false, nonstd := false }
    ctx128 := { h1 := 7, h2 := 9, len := len, final := false, ts := false, nonstd := false } }

/-- O2, O3: the tail counts at both ends of their ranges. -/
theorem test_witness_encoding :
    (Instr.tail32 1).wellFormed = true ∧ (Instr.tail32 3).wellFormed = true ∧
    (Instr.tail128 1).wellFormed = true ∧ (Instr.tail128 15).wellFormed = true ∧
    decode (encode (.tail128 15)) = .command (.tail128 15) := by decide

/-- O4: one word of each disjunct at its boundary, and the legal words next to them. -/
theorem test_witness_IllegalWords :
    issueCommand 0x00000000 State.reset = .next (failWith 5 State.reset) ∧
    issueCommand 0x00000007 State.reset = .next (failWith 5 State.reset) ∧
    issueCommand 0x00000021 State.reset = .next (failWith 5 State.reset) ∧
    issueCommand 0x00001001 State.reset = .next (failWith 5 State.reset) ∧
    issueCommand 0x00000106 State.reset = .next (failWith 5 State.reset) ∧
    issueCommand 0x00000403 State.reset = .next (failWith 5 State.reset) ∧
    issueCommand 0x00000013 State.reset = .next (failWith 5 State.reset) ∧
    issueCommand 0x00000303 State.reset = exec (.tail32 3) State.reset ∧
    issueCommand 0x00000F13 State.reset = exec (.tail128 15) State.reset ∧
    issueCommand 0x00000006 State.reset = exec .fmix32 State.reset :=
  ⟨rfl, rfl, rfl, rfl, rfl, rfl, rfl, rfl, rfl, rfl⟩

/-- O5, O6: an event that issues a command, and one that issues an illegal word. -/
theorem test_witness_StepRunsDecodedCommand :
    decode 0x00000005 = .command .fin32 ∧ (issuing 5 State.reset).pending = [.write (0 + 0x008) 4 0x00000005] ∧
    decode 0x00000007 = .illegal .reservedOp ∧
    (issuing 7 State.reset).pending = [.write (0 + 0x008) 4 0x00000007] := by decide

/-- O9, O12: BLOCK ready at the last length it accepts, finalized, after a tail, and at the first length it rejects. -/
theorem test_witness_BlockResult :
    Ready32 (bothLen 0xFFFFFFFB) 4 ∧ Ready128 (bothLen 0xFFFFFFEF) 16 ∧
    Ready32 (underReference (bothTail 3)) 4 ∧ Ready128 (underReference (bothTail 3)) 16 ∧
    bothFinal.ctx32.final = true ∧ bothFinal.ctx128.final = true ∧
    ((bothTail 3).ctx32.final = false ∧ (bothTail 3).ctx32.ts = true ∧ (bothTail 3).params.tailPolicy = .fault) ∧
    ((bothTail 3).ctx128.final = false ∧ (bothTail 3).ctx128.ts = true) ∧
    ((bothLen 0xFFFFFFFC).ctx32.final = false ∧ (bothLen 0xFFFFFFFC).ctx32.ts = false ∧
      4294967295 < (bothLen 0xFFFFFFFC).ctx32.len.toNat + 4) ∧
    ((bothLen 0xFFFFFFF0).ctx128.final = false ∧ (bothLen 0xFFFFFFF0).ctx128.ts = false ∧
      4294967295 < (bothLen 0xFFFFFFF0).ctx128.len.toNat + 16) := by decide

/-- O10, O13: TAIL ready for its least and greatest counts, the counts outside, and each error's premises. -/
theorem test_witness_TailResult :
    Ready32 (bothLen 0xFFFFFFFE) (1#4).toNat ∧ Ready32 (bothLen 0xFFFFFFFC) (3#4).toNat ∧
    Ready128 (bothLen 0xFFFFFFFE) (1#4).toNat ∧ Ready128 (bothLen 0xFFFFFFF0) (15#4).toNat ∧
    (0#4).toNat = 0 ∧ 3 < (4#4).toNat ∧ 1 ≤ (15#4).toNat ∧
    bothFinal.ctx32.final = true ∧ bothFinal.ctx128.final = true ∧
    ((bothTail 3).ctx32.ts = true ∧ (bothTail 3).ctx128.ts = true ∧ (bothTail 3).params.tailPolicy = .fault) ∧
    4294967295 < (bothLen 0xFFFFFFFD).ctx32.len.toNat + (3#4).toNat ∧
    4294967295 < (bothLen 0xFFFFFFF1).ctx128.len.toNat + (15#4).toNat := by decide

/-- O11, O14, O22, O23: FEED ready on a written range that ends where the buffer ends and on an empty one past a tail,
and each error's premises. -/
theorem test_witness_FeedResult :
    (let s := withInput (bytesTo 64) 59 5 (bothLen 0xFFFFFFFA)
     Ready32 s s.flen.toNat ∧ Ready128 s s.flen.toNat ∧ FeedInRange s ∧ FeedWritten s) ∧
    (let s := withInput [] 64 0 (bothTail 0xFFFFFFFF)
     Ready32 s s.flen.toNat ∧ Ready128 s s.flen.toNat ∧ FeedInRange s ∧ FeedWritten s) ∧
    (let s := withInput hello 0 6 State.reset
     Ready32 s s.flen.toNat ∧ Ready128 s s.flen.toNat ∧ FeedInRange s ∧ ¬ FeedWritten s) ∧
    (let s := withInput [] 65 0 State.reset
     s.ctx32.final = false ∧ s.ctx128.final = false ∧ s.params.ibufSize < s.foff.toNat + s.flen.toNat) ∧
    (let s := withInput hello 0 1 (bothTail 3)
     FeedInRange s ∧ 0 < s.flen.toNat ∧ s.ctx32.ts = true ∧ s.ctx128.ts = true ∧ s.params.tailPolicy = .fault) ∧
    (let s := withInput hello 0 1 (bothLen 0xFFFFFFFF)
     FeedInRange s ∧ s.ctx32.ts = false ∧ s.ctx128.ts = false ∧
     4294967295 < s.ctx32.len.toNat + s.flen.toNat ∧ 4294967295 < s.ctx128.len.toNat + s.flen.toNat) := by
  decide

/-- O15, O16: both phases. -/
theorem test_witness_FinResult :
    State.reset.ctx32.final = false ∧ State.reset.ctx128.final = false ∧
    bothFinal.ctx32.final = true ∧ bothFinal.ctx128.final = true := by decide

/-- O19: a command and a state for each premise. -/
theorem test_witness_AdmissionChecksInOrder :
    (bothFinal.ctx32.final = true ∧ (inputBytes32 bothFinal (.tail32 3)).isSome = true) ∧
    (bothFinal.ctx128.final = true ∧ (inputBytes128 bothFinal .feed128).isSome = true) ∧
    (let s := withInput [] 65 0 State.reset
     s.ctx32.final = false ∧ s.ctx128.final = false ∧ s.params.ibufSize < s.foff.toNat + s.flen.toNat) ∧
    (inputBytes32 (bothTail 3) (.tail32 1) = some 1 ∧ (bothTail 3).ctx32.ts = true ∧
      (bothTail 3).params.tailPolicy = .fault) ∧
    (inputBytes128 (bothTail 3) .block128 = some 16 ∧ (bothTail 3).ctx128.ts = true) ∧
    (inputBytes32 (bothLen 0xFFFFFFFC) .block32 = some 4 ∧
      4294967295 < (bothLen 0xFFFFFFFC).ctx32.len.toNat + 4) ∧
    (inputBytes128 (bothLen 0xFFFFFFF0) .block128 = some 16 ∧
      4294967295 < (bothLen 0xFFFFFFF0).ctx128.len.toNat + 16) := by decide

/-- O20, O21: a command that succeeds, one that fails, and an illegal word. -/
theorem test_witness_CommandOutcomes :
    (∃ t, exec .fmix32 State.reset = .next t ∧ t.lastErr = 0) ∧
    (∃ t, exec .fin32 bothFinal = .next t ∧ t.lastErr ≠ 0) ∧
    (∃ t, issueCommand 0x00000115 State.reset = .next t ∧ t.lastErr ≠ 0) ∧
    (∃ t, step (issuing 5 bothFinal) = .next t ∧ t.errSeen = true) :=
  ⟨⟨_, rfl, by decide⟩, ⟨_, rfl, by decide⟩, ⟨_, rfl, by decide⟩, ⟨_, rfl, by decide⟩⟩

/-- O24: a command of the other width. -/
theorem test_witness_ContextsAreIndependent :
    uses128 .feed32 = false ∧ uses32 (.tail128 15) = false ∧ uses128 .fmix64 = false ∧ uses32 .fmix64 = false :=
  ⟨rfl, rfl, rfl, rfl⟩

/-- O25, O28, O41: a step by a command of each width and a step by a reset, which change a context and a digest. -/
theorem test_witness_contexts_and_digests_change :
    (∃ t, step (issuing 5 (at32 1 0 false false false)) = .next t ∧ t.ctx32 ≠ (at32 1 0 false false false).ctx32 ∧
      t.dig32 ≠ 0) ∧
    (∃ t, step (issuing 0x15 (at128 1 1 0 false false false)) = .next t ∧
      t.ctx128 ≠ (at128 1 1 0 false false false).ctx128 ∧ t.dig128_0 ≠ 0 ∧ t.dig128_3 ≠ 0) ∧
    (∃ t, step (facing .reset bothFinal) = .next t ∧ t.ctx32 ≠ bothFinal.ctx32 ∧ t.dig32 ≠ bothFinal.dig32 ∧
      t.ctx128 ≠ bothFinal.ctx128) :=
  ⟨⟨_, rfl, by decide, by decide⟩, ⟨_, rfl, by decide, by decide, by decide⟩,
    ⟨_, rfl, by decide, by decide, by decide⟩⟩

/-- O26: both phases, a command of each width, and steps that leave FINAL. -/
theorem test_witness_PhaseRules :
    (∃ t, exec .block32 State.reset = .next t) ∧ (∃ t, exec .block128 State.reset = .next t) ∧
    uses32 .block32 = true ∧ uses128 .block128 = true ∧
    bothFinal.ctx32.final = true ∧ bothFinal.ctx128.final = true ∧
    (∃ t, step (issuing 1 bothFinal) = .next t ∧ t.ctx32.final = false) ∧
    (∃ t, step (issuing 0x11 bothFinal) = .next t ∧ t.ctx128.final = false) :=
  ⟨⟨_, rfl⟩, ⟨_, rfl⟩, rfl, rfl, rfl, rfl, ⟨_, rfl, by decide⟩, ⟨_, rfl, by decide⟩⟩

/-- O27: input after a tail under REFERENCE, which sets `nonstd`, and an INIT that clears both bits. -/
theorem test_witness_TailSeenAndNonstdBits :
    (∃ t, exec (.tail32 1) (underReference (bothTail 3)) = .next t ∧ t.lastErr = 0 ∧ t.ctx32.nonstd = true) ∧
    (∃ t, exec (.tail128 15) (underReference (bothTail 3)) = .next t ∧ t.lastErr = 0 ∧ t.ctx128.nonstd = true) ∧
    (∃ t, step (issuing 1 (at32 0 3 false true true)) = .next t ∧ t.ctx32.ts = false ∧ t.ctx32.nonstd = false) ∧
    (∃ t, step (issuing 0x11 (at128 0 0 3 false true true)) = .next t ∧ t.ctx128.ts = false ∧
      t.ctx128.nonstd = false) :=
  ⟨⟨_, rfl, by decide, by decide⟩, ⟨_, rfl, by decide, by decide⟩, ⟨_, rfl, by decide, by decide⟩,
    ⟨_, rfl, by decide, by decide⟩⟩

/-- O29: a memory that agrees with the state's on the range of a FEED, and differs outside it; a write that changes a
byte, and a reset that does. -/
theorem test_witness_IbufReadOnlyByFeedInRange :
    (let s := withInput hello 1 3 State.reset
     FeedInRange s ∧ s.ibuf ≠ (s.ibuf.take 4).drop 1 ∧
     ∀ j, j < s.flen.toNat → readByte ((s.ibuf.take 4).drop 1) (s.foff.toNat + j) = readByte s.ibuf (s.foff.toNat + j)) ∧
    (nextOf (step (facing (asmWrb Params.default 63 7) State.reset))).map (fun t => readByte t.ibuf 63)
      = some (some 7) ∧
    (nextOf (step (facing .reset (withInput hello 0 5 State.reset)))).map (fun t => readByte t.ibuf 4)
      = some none :=
  ⟨by decide, by decide, by decide⟩

/-- O30: a command for each premise, and the two that write staging words. -/
theorem test_witness_OperandsReadByEachCommand :
    Instr.fin32 ≠ .init32 ∧ Instr.fin32 ≠ .init128 ∧ Instr.fin32 ≠ .feed32 ∧ Instr.fin32 ≠ .feed128 ∧
    Instr.fin32 ≠ .block128 ∧ (∀ n, Instr.fin32 ≠ .tail128 n) ∧ (∀ n, Instr.fin32 ≠ .tail32 n) ∧
    Instr.fin32 ≠ .fmix32 ∧ Instr.fin32 ≠ .fmix64 ∧
    (∃ t, exec .fmix32 (withKdata 1 1 0 0 State.reset) = .next t ∧ t.kdata0 ≠ 1) ∧
    (∃ t, exec .fmix64 (withKdata 1 1 0 0 State.reset) = .next t ∧ t.kdata1 ≠ 1) :=
  ⟨by decide, by decide, by decide, by decide, by decide, by decide, by decide, by decide, by decide,
    ⟨_, rfl, by decide⟩, ⟨_, rfl, by decide⟩⟩

/-- O31: successful input of each width up to the length limit, and both INITs. -/
theorem test_witness_LengthCountsBytesExactly :
    (∃ t, exec .block32 (bothLen 0xFFFFFFFB) = .next t ∧ t.lastErr = 0 ∧
      inputBytes32 (bothLen 0xFFFFFFFB) .block32 = some 4) ∧
    (∃ t, exec (.tail128 15) (bothLen 0xFFFFFFF0) = .next t ∧ t.lastErr = 0 ∧
      inputBytes128 (bothLen 0xFFFFFFF0) (.tail128 15) = some 15) ∧
    (∃ t, exec .init32 bothFinal = .next t ∧ t.lastErr = 0) ∧
    (∃ t, exec .init128 bothFinal = .next t ∧ t.lastErr = 0) :=
  ⟨⟨_, rfl, by decide, by decide⟩, ⟨_, rfl, by decide, by decide⟩, ⟨_, rfl, by decide⟩, ⟨_, rfl, by decide⟩⟩

/-- O32, O33, O53: a write and a read the port faces. -/
theorem test_witness_register_accesses :
    (facing (.write (0 + 0x024) 4 5) State.reset).pending = [.write (State.reset.params.base + 0x024) 4 5] ∧
    (facing (.read (0 + 0x054) 4) State.reset).pending = [.read (State.reset.params.base + 0x054) 4] ∧
    (∃ t, step (facing (.read (0 + 0x054) 4) State.reset) = .next t ∧ t.reply = .data 4 64) :=
  ⟨by decide, by decide, ⟨_, rfl, by decide⟩⟩

/-- O34: an offset of each kind at both ends of its range, inside the register region. -/
theorem test_witness_BadRegisterAccess :
    (∀ off ∈ [0x034, 0x03F, 0x058, 0xFFF, 0x001], off < 0x1000 ∧
      ((4 : Nat) ≠ 4 ∨ off % 4 ≠ 0 ∨ (0x034 ≤ off ∧ off ≤ 0x03F) ∨ 0x058 ≤ off)) ∧
    step (facing (.read 0x034 4) State.reset) = .refused .busError ∧
    step (facing (.write 0x058 4 0) State.reset) = .refused .busError ∧
    step (facing (.read 0x008 4) State.reset) = .refused .busError ∧
    step (facing (.write 0x054 4 0) State.reset) = .refused .busError :=
  ⟨by decide, rfl, rfl, rfl, rfl⟩

/-- O35: the last access of each width inside the buffer, and accesses just past it, misaligned and of another width. -/
theorem test_witness_IbufAccesses :
    (∀ x ∈ [(63, 1), (62, 2), (60, 4)], x.1 < 0x1000 ∧ (x.2 = 1 ∨ x.2 = 2 ∨ x.2 = 4) ∧ x.1 % x.2 = 0 ∧
      x.1 + x.2 ≤ State.reset.params.ibufSize) ∧
    (∀ x ∈ [(64, 1), (63, 2), (61, 4), (0, 3), (0, 8), (4095, 1)], x.1 < 0x1000 ∧
      ¬((x.2 = 1 ∨ x.2 = 2 ∨ x.2 = 4) ∧ x.1 % x.2 = 0 ∧ x.1 + x.2 ≤ State.reset.params.ibufSize)) ∧
    (facing (.write (0 + (0x1000 + 60)) 4 5) State.reset).pending
      = [.write (State.reset.params.base + (0x1000 + 60)) 4 5] ∧
    (facing (.read (0 + (0x1000 + 63)) 1) State.reset).pending
      = [.read (State.reset.params.base + (0x1000 + 63)) 1] := by decide

/-- O36: the addresses just outside a window at 8192. -/
theorem test_witness_OutsideWindow :
    (let s := { State.reset with params := { Params.default with base := 8192 }, pending := [.read 8191 4] }
     s.params.Wf ∧ 8191 < s.params.base ∧ s.params.base + 8192 ≤ 16384 ∧
     step s = .next { s with pending := [], reply := .elsewhere }) :=
  ⟨by decide, by decide, by decide, rfl⟩

/-- O37, O38: a reset the port faces. -/
theorem test_witness_Reset :
    (facing .reset bothFinal).pending = [.reset] ∧
    (∃ t, step (facing .reset (withInput hello 0 5 bothFinal)) = .next t ∧ readByte t.ibuf 0 = none) ∧
    bothFinal.seed = 0 :=
  ⟨by decide, ⟨_, rfl, by decide⟩, by decide⟩

/-- The invariant holds away from reset too: both contexts FINAL, bytes written, an error reported. -/
theorem test_inv_holds_of_used_state : Inv (withInput hello 0 5 (raise .misuseFinalized bothFinal)) where
  params := by decide
  ibuf := by decide
  errors := by decide
  nonstd := by decide
  digests := by decide

/-- O40: a state that meets the invariant, and its step. -/
theorem test_witness_StepKeepsInvariant :
    Inv (issuing 1 bothFinal) ∧ ∃ t, step (issuing 1 bothFinal) = .next t :=
  ⟨⟨by decide, by decide, by decide, by decide, by decide⟩, ⟨_, rfl⟩⟩

/-- O43: a state with seed 0, both contexts finalized. -/
theorem test_witness_EmptyInputDigestIsZero : bothFinal.seed = 0 := by decide

/-- O44: a TAIL128 of 8 bytes. -/
theorem test_witness_ShortTail128 :
    (8#4).toNat ≤ 8 ∧ ∃ t, exec (.tail128 8) State.reset = .next t ∧ t.lastErr = 0 :=
  ⟨by decide, ⟨_, rfl, by decide⟩⟩

/-- O42: the least shift and an odd and the least odd multiplier. -/
theorem test_witness_FmixAreBijections :
    1 ≤ (1 : Nat) ∧ (1 : Word).toNat % 2 = 1 ∧ (0xc2b2ae35 : Word).toNat % 2 = 1 ∧
    (0xff51afd7ed558ccd : DWord).toNat % 2 = 1 ∧ (0xc4ceb9fe1a85ec53 : DWord).toNat % 2 = 1 := by decide

/-- O45: "hello", one word and a tail; and a FEED32 past the length limit. -/
theorem test_witness_Feed32EqualsCommandSequence :
    (let s := withInput hello 0 5 State.reset
     feedBytes s = some hello ∧ ∃ t, exec .feed32 s = .next t ∧ t.lastErr = 0) ∧
    (let s := withInput (bytesTo 8) 0 8 (bothLen 0xFFFFFFFB)
     feedBytes s = some (bytesTo 8) ∧ (∃ t, exec .feed32 s = .next t ∧ t.lastErr ≠ 0) ∧
     ∃ u, blocksThenTail32 2 (bytesTo 8) s = .next u ∧ u.lastErr ≠ 0 ∧ u.ctx32 ≠ s.ctx32) :=
  ⟨⟨by decide, ⟨_, rfl, by decide⟩⟩, by decide, ⟨_, rfl, by decide⟩, ⟨_, rfl, by decide, by decide⟩⟩

/-- O46: 17 bytes, one block and a tail; and a FEED128 past the length limit. -/
theorem test_witness_Feed128EqualsCommandSequence :
    (let s := withInput (bytesTo 17) 0 17 State.reset
     feedBytes s = some (bytesTo 17) ∧ ∃ t, exec .feed128 s = .next t ∧ t.lastErr = 0) ∧
    (let s := withInput (bytesTo 32) 0 32 (bothLen 0xFFFFFFEF)
     feedBytes s = some (bytesTo 32) ∧ (∃ t, exec .feed128 s = .next t ∧ t.lastErr ≠ 0) ∧
     ∃ u, blocksThenTail128 2 (bytesTo 32) s = .next u ∧ u.lastErr ≠ 0 ∧ u.ctx128 ≠ s.ctx128) :=
  ⟨⟨by decide, ⟨_, rfl, by decide⟩⟩, by decide, ⟨_, rfl, by decide⟩, ⟨_, rfl, by decide, by decide⟩⟩

/-- O47: "hell" then "o", and the one FEED32 of "hello". -/
theorem test_witness_StreamedFeed32 :
    (∃ c', Feeds32 Params.default State.reset.ctx32 [[0x68, 0x65, 0x6c, 0x6c], [0x6f]] c' ∧
      ∃ s : State, s.params = Params.default ∧ s.ctx32 = c' ∧ FeedInRange s ∧ 0 < s.flen.toNat) ∧
    (let s := withInput hello 0 5 State.reset
     s.params = Params.default ∧ s.ctx32 = State.reset.ctx32 ∧ FeedInRange s ∧
     feedBytes s = some [[0x68, 0x65, 0x6c, 0x6c], [0x6f]].flatten) ∧
    Params.default.tailPolicy = .fault ∧ State.reset.ctx32.final = false ∧ State.reset.ctx32.ts = false := by
  refine ⟨⟨_, .feed (withInput hello 0 4 State.reset) _ _ _ _ rfl (by decide) rfl (by decide)
    (.feed { withInput hello 4 1 State.reset with
      ctx32 := (State.reset.ctx32.absorbed (absorb32 [0x68, 0x65, 0x6c, 0x6c] 0) 4 false) }
      _ _ _ _ rfl (by decide) rfl (by decide) (.none _)),
    ⟨{ withInput hello 0 1 State.reset with ctx32 := _ }, rfl, rfl, by decide, by decide⟩⟩,
    by decide, by decide, by decide, by decide⟩

/-- O48: 16 bytes then one more, and the one FEED128 of the 17. -/
theorem test_witness_StreamedFeed128 :
    (∃ c', Feeds128 Params.default State.reset.ctx128 [bytesTo 16, [0x11]] c' ∧
      ∃ s : State, s.params = Params.default ∧ s.ctx128 = c' ∧ FeedInRange s ∧ 0 < s.flen.toNat) ∧
    (let s := withInput (bytesTo 17) 0 17 State.reset
     s.params = Params.default ∧ s.ctx128 = State.reset.ctx128 ∧ FeedInRange s ∧
     feedBytes s = some [bytesTo 16, [0x11]].flatten) ∧
    State.reset.ctx128.final = false ∧ State.reset.ctx128.ts = false := by
  refine ⟨⟨_, .feed (withInput (bytesTo 17) 0 16 State.reset) _ _ _ _ rfl (by decide) rfl (by decide)
    (.feed { withInput (bytesTo 17) 16 1 State.reset with
      ctx128 := (State.reset.ctx128.absorbed (absorb128 (bytesTo 16) (0, 0)) 16 false) }
      _ _ _ _ rfl (by decide) rfl (by decide) (.none _)),
    ⟨{ withInput hello 0 1 State.reset with ctx128 := _ }, rfl, rfl, by decide, by decide⟩⟩,
    by decide, by decide, by decide⟩

/-- O49: a bare mnemonic the port faces. -/
theorem test_witness_MnemonicWriteRunsCommand :
    (Instr.tail128 15).wellFormed = true ∧
    (facing (asmCommand Params.default (.tail128 15)) State.reset).pending
      = asmCommand State.reset.params (.tail128 15) :: [] := by decide

/-- O50: each operand mnemonic as the events the port faces. -/
theorem test_witness_OperandMnemonicsExpand :
    (∀ es ∈ [asmInit32 Params.default 1, asmInit128 Params.default 1, asmBlock32 Params.default 1,
        asmBlock128 Params.default 1 2 3 4, asmFeed32 Params.default 0 4, asmFeed128 Params.default 0 4],
      ({ State.reset with pending := es } : State).pending = es ++ []) ∧
    (∃ t, steps 2 { State.reset with pending := asmBlock32 Params.default 0x64636261 } = .next t ∧
      t.ctx32.h = 0x86a7049e) :=
  ⟨by decide, ⟨_, rfl, by decide⟩⟩

/-- O51: a successful FIN of each width and a command after it. -/
theorem test_witness_FinalizeIsSingleUse :
    (∃ t, exec .fin32 State.reset = .next t ∧ t.lastErr = 0) ∧
    (∃ t, exec .fin128 State.reset = .next t ∧ t.lastErr = 0) ∧
    (Instr.tail32 3).wellFormed = true ∧ uses32 (.tail32 3) = true ∧ uses128 .fin128 = true ∧
    bothFinal.ctx32.final = true ∧ bothFinal.ctx128.final = true ∧
    (∃ t, step (issuing 6 bothFinal) = .next t) ∧ (∃ t, step (issuing 1 bothFinal) = .next t) :=
  ⟨⟨_, rfl, by decide⟩, ⟨_, rfl, by decide⟩, by decide, by decide, by decide, by decide, by decide, ⟨_, rfl⟩, ⟨_, rfl⟩⟩

/-- O52: a step after an error, and steps that set the bit, by an illegal word and by a command that fails. -/
theorem test_witness_ErrSeenIsSticky :
    (∃ t, step (issuing 1 (raise .illegalCommand State.reset)) = .next t ∧ t.errSeen = true ∧ t.lastErr = 0) ∧
    (State.reset.errSeen = false ∧ ∃ t, step (issuing 0 State.reset) = .next t ∧ t.errSeen = true) ∧
    (bothFinal.errSeen = false ∧ ∃ t, step (issuing 5 bothFinal) = .next t ∧ t.errSeen = true) :=
  ⟨⟨_, rfl, by decide, by decide⟩, ⟨by decide, ⟨_, rfl, by decide⟩⟩, ⟨by decide, ⟨_, rfl, by decide⟩⟩⟩

/-- O54: the least and the greatest tails. -/
theorem test_witness_TailSteps :
    1 ≤ ([0x01] : List Byte).length ∧ ([0x01, 0x02, 0x03] : List Byte).length ≤ 3 ∧ (bytesTo 15).length ≤ 15 ∧
    tailword32 [0x01, 0x02, 0x03] = 0x00030201 ∧
    tailwords128 (bytesTo 15) = (0x0807060504030201, 0x000f0e0d0c0b0a09) := by decide

/-- O55: two states that differ in everything a TAIL32 2, a FEED32 and a TAIL128 9 do not read. -/
theorem test_witness_DigestDependsOnlyOnItsInputs :
    (let s := withKdata 0xAAAA2211 1 2 3 State.reset
     let s' := withKdata 0xBBBB2211 4 5 6 { State.reset with seed := 9, dig32 := 8, errSeen := true }
     s'.params = s.params ∧ s'.ctx32 = s.ctx32 ∧
     s'.kdata0.toNat % 256 ^ (2#4).toNat = s.kdata0.toNat % 256 ^ (2#4).toNat ∧
     ∃ t, exec (.tail32 2) s = .next t) ∧
    (let s := withInput hello 0 5 State.reset
     let s' := withInput (0 :: hello) 1 5 State.reset
     s'.flen = s.flen ∧ (FeedInRange s' ↔ FeedInRange s) ∧ feedBytes s' = feedBytes s ∧
     (∃ t, exec .feed32 s = .next t) ∧ ∃ t, exec .feed128 s = .next t) ∧
    (let s := withKdata 1 2 0xAAAAAA03 4 State.reset
     let s' := withKdata 1 2 0xBBBBBB03 5 State.reset
     (stagingArea s').toNat % 256 ^ (9#4).toNat = (stagingArea s).toNat % 256 ^ (9#4).toNat ∧
     ∃ t, exec (.tail128 9) s = .next t) :=
  ⟨⟨by decide, by decide, by decide, ⟨_, rfl⟩⟩, ⟨by decide, by decide, by decide, ⟨_, rfl⟩, ⟨_, rfl⟩⟩,
    by decide, ⟨_, rfl⟩⟩

end Sys2Proof.Tests
end

section
/-! Accesses to the register region (O32, O33): a 32-bit access at a register's offset reaches that register, and the two
flag words written out bit by bit. -/

namespace Sys2Proof.Proofs

open Sys2Proof.Machine Sys2Proof.Safety

/-- Every register lies in the window (10_state.md R41, 20_memory.md R51). -/
theorem inWindow_regOffset (p : Params) (r : Reg) : InWindow p (p.base + regOffset r) := by
  have := regOffset_lt r
  constructor <;> omega

theorem windowRead_regOffset (r : Reg) (s : State) : windowRead (regOffset r) 4 s = readReg r s := by
  simp [windowRead, regOffset_lt, regAt_regOffset]

theorem windowWrite_regOffset (r : Reg) (v : Word) (s : State) :
    windowWrite (regOffset r) 4 v s = writeReg r v s := by
  simp [windowWrite, regOffset_lt, regAt_regOffset]

/-- No register's value depends on the events still to be served. -/
@[simp] theorem readReg_setPending (r : Reg) (s : State) (es : List HostEvent) :
    readReg r (s.setPending es) = readReg r s := by
  cases r <;> rfl

/-- A step with an event pending serves the oldest one. -/
theorem step_of_pending {s : State} {e : HostEvent} {rest : List HostEvent} (hp : s.pending = e :: rest) :
    step s = serve e (s.setPending rest) := by
  simp [step, servePending, hp]

/-- A step that faces a 32-bit write at a register's offset is that register's write, acknowledged. -/
theorem step_registerWrite {s : State} {r : Reg} {v : Word} {rest : List HostEvent}
    (hp : s.pending = .write (s.params.base + regOffset r) 4 v :: rest) :
    step s = mapNext (fun t => t.setReply .written) (writeReg r v (s.setPending rest)) := by
  rw [step_of_pending hp]
  simp [serve, inWindow_regOffset s.params r, windowWrite_regOffset]

/-- A register that has a value is read as that value at its offset. -/
theorem readsAs_regOffset {r : Reg} {val : State → Word} (hr : ∀ s, readReg r s = some (val s)) :
    ReadsAs (regOffset r) val := by
  intro s rest hp
  have hv : windowRead (regOffset r) 4 (s.setPending rest) = some (val s) := by
    rw [windowRead_regOffset, readReg_setPending, hr]
  rw [step_of_pending hp]
  simp only [serve, State.setPending_params, if_pos (inWindow_regOffset s.params r), Nat.add_sub_cancel_left, hv]
  rfl

/-- A register whose write stores the value, whatever is pending, is written at its offset and nothing else changes. -/
theorem writesAs_regOffset {r : Reg} {upd : Word → State → State}
    (hr : ∀ v s es, writeReg r v (s.setPending es) = .next ((upd v s).setPending es)) :
    WritesAs (regOffset r) upd := by
  intro s v rest hp
  rw [step_registerWrite hp, hr]
  rfl

/-- A write at the offset of a register that refuses writes is a bus error (20_memory.md R53). -/
theorem writeIsBusError_regOffset {r : Reg} (hr : ∀ v s, writeReg r v s = .refused .busError) :
    WriteIsBusError (regOffset r) 4 := by
  intro s v rest hp
  rw [step_registerWrite hp, hr]
  rfl

/-- The read-only registers (10_state.md R41). -/
def readOnlyRegs : List Reg :=
  [.id, .status, .len32, .len128, .dig32, .dig128_0, .dig128_1, .dig128_2, .dig128_3, .config, .ibufsz]

theorem writeReg_readOnly {r : Reg} (hr : r ∈ readOnlyRegs) (v : Word) (s : State) :
    writeReg r v s = .refused .busError := by
  cases r
  case cmd | seed | kdata0 | kdata1 | kdata2 | kdata3 | foff | flen => simp [readOnlyRegs] at hr
  all_goals rfl

theorem getLsbD_bitAt (k : Nat) (b : Bool) {i : Nat} (hi : i < 32) :
    (bitAt k b).getLsbD i = (decide (i = k) && b) := by
  rw [bitAt, BitVec.getLsbD_shiftLeft, BitVec.getLsbD_setWidth, BitVec.getLsbD_ofBool]
  by_cases h : i = k
  · simp [h, h ▸ hi]
  · have : i < k ∨ i - k ≠ 0 := by omega
    rcases this with h' | h' <;> simp [h, h']

/-- `STATUS` bit by bit (10_state.md R36). -/
theorem statusWord_eq_append (s : State) :
    statusWord s =
      0#19 ++ BitVec.ofBool s.errSeen ++ s.lastErr ++ 0#2 ++ BitVec.ofBool s.ctx128.nonstd ++
        BitVec.ofBool s.ctx32.nonstd ++ BitVec.ofBool s.ctx128.ts ++ BitVec.ofBool s.ctx32.ts ++
        BitVec.ofBool s.ctx128.final ++ BitVec.ofBool s.ctx32.final := by
  apply BitVec.eq_of_getLsbD_eq
  intro i hi
  simp only [statusWord, BitVec.getLsbD_or, getLsbD_bitAt _ _ hi, BitVec.getLsbD_append]
  interval_cases i <;> simp

/-- `CONFIG` bit by bit (10_state.md R37). -/
theorem configWord_eq_append (p : Params) :
    configWord p =
      0#30 ++ BitVec.ofBool (decide (p.tailPolicy = .reference)) ++ BitVec.ofBool p.seed32Compat := by
  apply BitVec.eq_of_getLsbD_eq
  intro i hi
  simp only [configWord, BitVec.getLsbD_or, getLsbD_bitAt _ _ hi, BitVec.getLsbD_append]
  interval_cases i <;> simp

/-- Settles O32: each of the seven registers stores the word whatever is pending. -/
theorem readWriteRegistersTakeWholeWord : Obligations.ReadWriteRegistersTakeWholeWord :=
  ⟨writesAs_regOffset (r := .seed) fun _ _ _ => rfl, writesAs_regOffset (r := .kdata0) fun _ _ _ => rfl,
    writesAs_regOffset (r := .kdata1) fun _ _ _ => rfl, writesAs_regOffset (r := .kdata2) fun _ _ _ => rfl,
    writesAs_regOffset (r := .kdata3) fun _ _ _ => rfl, writesAs_regOffset (r := .foff) fun _ _ _ => rfl,
    writesAs_regOffset (r := .flen) fun _ _ _ => rfl⟩

/-- The offsets of the read-only registers, as O33 lists them. -/
theorem map_regOffset_readOnlyRegs :
    readOnlyRegs.map regOffset = [0x000, 0x004, 0x028, 0x02C, 0x030, 0x040, 0x044, 0x048, 0x04C, 0x050, 0x054] := rfl

/-- Settles O33: each readable register is read at its offset as `readReg` says, with the two flag words as their bits, and
a read-only register refuses a write. -/
theorem registerReadsReturnTheMap : Obligations.RegisterReadsReturnTheMap := by
  refine ⟨readsAs_regOffset (r := .id) fun _ => rfl,
    readsAs_regOffset (r := .status) fun s => congrArg some (statusWord_eq_append s),
    readsAs_regOffset (r := .seed) fun _ => rfl, readsAs_regOffset (r := .kdata0) fun _ => rfl,
    readsAs_regOffset (r := .kdata1) fun _ => rfl, readsAs_regOffset (r := .kdata2) fun _ => rfl,
    readsAs_regOffset (r := .kdata3) fun _ => rfl, readsAs_regOffset (r := .foff) fun _ => rfl,
    readsAs_regOffset (r := .flen) fun _ => rfl, readsAs_regOffset (r := .len32) fun _ => rfl,
    readsAs_regOffset (r := .len128) fun _ => rfl, readsAs_regOffset (r := .dig32) fun _ => rfl,
    readsAs_regOffset (r := .dig128_0) fun _ => rfl, readsAs_regOffset (r := .dig128_1) fun _ => rfl,
    readsAs_regOffset (r := .dig128_2) fun _ => rfl, readsAs_regOffset (r := .dig128_3) fun _ => rfl,
    readsAs_regOffset (r := .config) fun s => congrArg some (configWord_eq_append s.params),
    readsAs_regOffset (r := .ibufsz) fun _ => rfl, ?_⟩
  rw [← map_regOffset_readOnlyRegs, List.forall_mem_map]
  exact fun r hr => writeIsBusError_regOffset (writeReg_readOnly hr)

end Sys2Proof.Proofs
end

section
/-! The two widths do not meet (O24): a command of one width, and FMIX, runs the same with everything of the other width
replaced. -/

namespace Sys2Proof.Proofs

open Sys2Proof.Machine Sys2Proof.Safety

/-- The staged bytes depend only on the staging registers. -/
theorem stagingBytes_congr {s s' : State} (h : kdata s' = kdata s) (n : Nat) :
    stagingBytes s' n = stagingBytes s n := by
  suffices ∀ j, stagingFrom s' j n = stagingFrom s j n from this 0
  induction n with
  | zero => exact fun _ => rfl
  | succ n ih => simp [stagingFrom, stagingByte, h, ih]

theorem stagingBytes_with128 (s : State) (c : Ctx128) (d0 d1 d2 d3 : Word) (n : Nat) :
    stagingBytes (with128 s c d0 d1 d2 d3) n = stagingBytes s n :=
  stagingBytes_congr (by unfold kdata; rfl) n

theorem stagingBytes_with32 (s : State) (c : Ctx32) (d : Word) (n : Nat) :
    stagingBytes (with32 s c d) n = stagingBytes s n :=
  stagingBytes_congr (by unfold kdata; rfl) n

/-- A change to the state that an error's report does not touch goes through a check. -/
theorem unlessRaised_mapNext {f : State → State} (hf : ∀ e t, raise e (f t) = f (raise e t)) {c : Option CmdError}
    {s : State} {k k' : Host.Outcome State Fault Refusal} (hk : k' = mapNext f k) :
    unlessRaised c (f s) k' = mapNext f (unlessRaised c s k) := by
  cases c with
  | none => exact hk
  | some e => exact congrArg Host.Outcome.next (hf e s)

/-- A command not of the 128-bit width neither reads nor writes anything of that width (10_state.md R25). -/
theorem exec_with128 {i : Instr} (hi : uses128 i = false) (s : State) (c : Ctx128) (d0 d1 d2 d3 : Word) :
    exec i (with128 s c d0 d1 d2 d3) = mapNext (fun t => with128 t c d0 d1 d2 d3) (exec i s) := by
  have through := @unlessRaised_mapNext (fun t => with128 t c d0 d1 d2 d3) (fun _ _ => rfl)
  cases i with
  | init32 | fmix32 | fmix64 => rfl
  | block32 | fin32 => exact through rfl
  | tail32 n => exact through (through (by rw [stagingBytes_with128]; rfl))
  | feed32 =>
    have hb : feedBytes (with128 s c d0 d1 d2 d3) = feedBytes s := rfl
    refine through ?_
    rw [hb]
    cases feedBytes s <;> rfl
  | init128 | block128 | tail128 _ | feed128 | fin128 => cases hi

/-- A command not of the 32-bit width neither reads nor writes anything of that width (10_state.md R25). -/
theorem exec_with32 {i : Instr} (hi : uses32 i = false) (s : State) (c : Ctx32) (d : Word) :
    exec i (with32 s c d) = mapNext (fun t => with32 t c d) (exec i s) := by
  have through := @unlessRaised_mapNext (fun t => with32 t c d) (fun _ _ => rfl)
  cases i with
  | init128 | fmix32 | fmix64 => rfl
  | block128 | fin128 => exact through rfl
  | tail128 n => exact through (through (by rw [stagingBytes_with32]; rfl))
  | feed128 =>
    have hb : feedBytes (with32 s c d) = feedBytes s := rfl
    refine through ?_
    rw [hb]
    cases feedBytes s <;> rfl
  | init32 | block32 | tail32 _ | feed32 | fin32 => cases hi

/-- Settles O24, by the commands of the other width one by one. -/
theorem contextsAreIndependent : Obligations.ContextsAreIndependent :=
  ⟨fun _ s c d0 d1 d2 d3 hi => exec_with128 hi s c d0 d1 d2 d3, fun _ s c d hi => exec_with32 hi s c d⟩

end Sys2Proof.Proofs
end

section
/-! What a command and a step can do to the two contexts: the inversion lemmas that O26 and O27 rest on, one of each for
each width. -/

namespace Sys2Proof.Proofs

open Sys2Proof.Machine Sys2Proof.Safety

theorem errorCode_ne_two {e : CmdError} (he : e ≠ .misuseFinalized) : e.code ≠ 2 := by
  cases e with
  | misuseFinalized => exact absurd rfl he
  | invalidArgument | misuseTailNotLast | lengthOverflow | illegalCommand => decide

/-- In phase ABSORB no check raises `MISUSE_FINALIZED` (10_state.md R27). -/
theorem admission_ne_misuseFinalized {final : Bool} (hf : final = false) (ts : Bool) (len : Word) (op : AdmitOp)
    (n : Nat) (s : State) : admission final ts len op n s ≠ some .misuseFinalized := by
  subst hf
  unfold admission
  split
  · contradiction
  · repeat' split
    all_goals simp

/-- A word's command runs, or an `ILLEGAL` word is reported. -/
theorem issueCommand_next {w : Word} {s t : State} (h : issueCommand w s = .next t) :
    t = raise .illegalCommand s ∨ ∃ i, decode w = .command i ∧ exec i s = .next t := by
  unfold issueCommand at h
  split at h
  · exact .inl (Host.Outcome.next.inj h).symm
  next i hd => exact .inr ⟨i, hd, h⟩

/-- What a step can do to the contexts: nothing, a reset, or the command that the port's next event issues. -/
theorem step_contexts {s t : State} (h : step s = .next t) :
    (t.ctx32 = s.ctx32 ∧ t.ctx128 = s.ctx128) ∨ HeadIs s .reset ∨
    ∃ i rest u, HeadCommand s i ∧ exec i (s.setPending rest) = .next u ∧ t = u.setReply .written := by
  rcases step_cases h with ht | ⟨rest, hp, _⟩ | ⟨w, rest, u, hp, hu, rfl⟩
  · rw [ht]
    exact .inl ⟨rfl, rfl⟩
  · exact .inr (.inl ⟨rest, hp⟩)
  · rcases issueCommand_next hu with rfl | ⟨i, hd, hx⟩
    · exact .inl ⟨rfl, rfl⟩
    · exact .inr (.inr ⟨i, rest, u, ⟨w, rest, hp, hd⟩, hx, rfl⟩)

theorem eq_illegalCommand_of_tail32CountCheck {n : BitVec 4} {e : CmdError} (h : tail32CountCheck n = some e) :
    e = .illegalCommand := by
  unfold tail32CountCheck at h
  split at h
  · contradiction
  · exact (Option.some.inj h).symm

/-- A command not of the 32-bit width leaves what belongs to it. -/
theorem exec_keeps_ctx32 {i : Instr} {s t : State} (hi : uses32 i = false) (h : exec i s = .next t) :
    t.ctx32 = s.ctx32 := by
  have hx := exec_with32 hi s s.ctx32 s.dig32
  rw [show with32 s s.ctx32 s.dig32 = s from rfl, h] at hx
  have ht := Host.Outcome.next.inj hx
  rw [ht]
  rfl

/-- Whether the command mixes a tail into `CTX32` when it succeeds: TAIL32, and FEED32 with a remainder
(10_state.md R28). -/
def mixesTail32 (s : State) (i : Instr) : Prop :=
  (∃ n, i = .tail32 n) ∨ (i = .feed32 ∧ s.flen.toNat % 4 ≠ 0)

/-- Everything a command of the 32-bit width can answer: INIT32 starts a message, a failure is reported, an input is
absorbed, or FIN32 ends the message. -/
theorem exec_uses32_next {i : Instr} {s t : State} (hi : uses32 i = true) (h : exec i s = .next t) :
    (i = .init32 ∧ ∃ a, t = succeed32 { h := a, len := 0, final := false, ts := false, nonstd := false } s) ∨
    (∃ e, t = raise e s ∧ (e = .illegalCommand ∨ ∃ op n, admit32 op n s = some e)) ∨
    (∃ a n m, i ≠ .init32 ∧ inputBytes32 s i = some n ∧ (m = true ↔ mixesTail32 s i) ∧
      t = succeed32 (s.ctx32.absorbed a n m) s) ∨
    (i = .fin32 ∧ ∃ a, t = finish32 { s.ctx32 with h := a, final := true } a s) := by
  cases i with
  | init32 => exact .inl ⟨rfl, _, (Host.Outcome.next.inj h).symm⟩
  | block32 =>
    rcases execBlock32_next h with ⟨e, he, ht⟩ | ⟨_, ht⟩
    · exact .inr (.inl ⟨e, ht, .inr ⟨_, _, he⟩⟩)
    · exact .inr (.inr (.inl ⟨_, _, _, nofun, rfl, by simp [mixesTail32], ht⟩))
  | tail32 n =>
    rcases unlessRaised_next h with ⟨e, he, ht⟩ | ⟨_, hk⟩
    · exact .inr (.inl ⟨e, ht, .inl (eq_illegalCommand_of_tail32CountCheck he)⟩)
    · rcases unlessRaised_next hk with ⟨e, he, ht⟩ | ⟨_, ht⟩
      · exact .inr (.inl ⟨e, ht, .inr ⟨_, _, he⟩⟩)
      · exact .inr (.inr (.inl ⟨_, _, _, nofun, rfl, by simp [mixesTail32], (Host.Outcome.next.inj ht).symm⟩))
  | feed32 =>
    rcases execFeed32_next h with ⟨e, he, ht⟩ | ⟨bs, _, _, ht⟩
    · exact .inr (.inl ⟨e, ht, .inr ⟨_, _, he⟩⟩)
    · exact .inr (.inr (.inl ⟨_, _, _, nofun, rfl, by simp [mixesTail32], ht⟩))
  | fin32 =>
    rcases execFin32_next h with ⟨e, he, ht⟩ | ⟨_, ht⟩
    · exact .inr (.inl ⟨e, ht, .inr ⟨_, _, he⟩⟩)
    · exact .inr (.inr (.inr ⟨rfl, _, ht⟩))
  | init128 | block128 | tail128 _ | feed128 | fin128 | fmix32 | fmix64 => cases hi

/-- The flags of a `CTX32` that are set stay set. -/
structure FlagsKept32 (c c' : Ctx32) : Prop where
  final : c.final = true → c'.final = true
  ts : c.ts = true → c'.ts = true
  nonstd : c.nonstd = true → c'.nonstd = true

/-- Every command but INIT32 leaves the flags of `CTX32` that are set (10_state.md R27, R28). -/
theorem exec_keeps_flags32 {i : Instr} {s t : State} (hne : i ≠ .init32) (h : exec i s = .next t) :
    FlagsKept32 s.ctx32 t.ctx32 := by
  cases hi : uses32 i with
  | false =>
    rw [exec_keeps_ctx32 hi h]
    exact ⟨id, id, id⟩
  | true =>
    rcases exec_uses32_next hi h with ⟨rfl, _⟩ | ⟨e, rfl, _⟩ | ⟨a, n, m, _, _, _, rfl⟩ | ⟨_, a, rfl⟩
    · exact absurd rfl hne
    · exact ⟨id, id, id⟩
    · exact ⟨id, by simp +contextual [tsAfter], by simp +contextual [nonstdAfter]⟩
    · exact ⟨fun _ => rfl, id, id⟩

/-- A step clears a flag of `CTX32` only by a reset or INIT32. -/
theorem step_keeps_flags32 {s t : State} (h : step s = .next t) :
    FlagsKept32 s.ctx32 t.ctx32 ∨ HeadIs s .reset ∨ HeadCommand s .init32 := by
  rcases step_contexts h with ⟨hc32, hc128⟩ | hr | ⟨i, rest, u, hi, hx, rfl⟩
  · rw [hc32]
    exact .inl ⟨id, id, id⟩
  · exact .inr (.inl hr)
  · by_cases hne : i = .init32
    · exact .inr (.inr (hne ▸ hi))
    · have kept := exec_keeps_flags32 hne hx
      exact .inl kept

theorem eq_illegalCommand_of_tail128CountCheck {n : BitVec 4} {e : CmdError} (h : tail128CountCheck n = some e) :
    e = .illegalCommand := by
  unfold tail128CountCheck at h
  split at h
  · exact (Option.some.inj h).symm
  · contradiction

/-- A command not of the 128-bit width leaves what belongs to it. -/
theorem exec_keeps_ctx128 {i : Instr} {s t : State} (hi : uses128 i = false) (h : exec i s = .next t) :
    t.ctx128 = s.ctx128 := by
  have hx := exec_with128 hi s s.ctx128 s.dig128_0 s.dig128_1 s.dig128_2 s.dig128_3
  rw [show with128 s s.ctx128 s.dig128_0 s.dig128_1 s.dig128_2 s.dig128_3 = s from rfl, h] at hx
  have ht := Host.Outcome.next.inj hx
  rw [ht]
  rfl

/-- Whether the command mixes a tail into `CTX128` when it succeeds: TAIL128, and FEED128 with a remainder
(10_state.md R28). -/
def mixesTail128 (s : State) (i : Instr) : Prop :=
  (∃ n, i = .tail128 n) ∨ (i = .feed128 ∧ s.flen.toNat % 16 ≠ 0)

/-- Everything a command of the 128-bit width can answer: INIT128 starts a message, a failure is reported, an input is
absorbed, or FIN128 ends the message. -/
theorem exec_uses128_next {i : Instr} {s t : State} (hi : uses128 i = true) (h : exec i s = .next t) :
    (i = .init128 ∧ ∃ a b, t = succeed128 { h1 := a, h2 := b, len := 0, final := false, ts := false, nonstd := false } s) ∨
    (∃ e, t = raise e s ∧ (e = .illegalCommand ∨ ∃ op n, admit128 op n s = some e)) ∨
    (∃ a n m, i ≠ .init128 ∧ inputBytes128 s i = some n ∧ (m = true ↔ mixesTail128 s i) ∧
      t = succeed128 (s.ctx128.absorbed a n m) s) ∨
    (i = .fin128 ∧ ∃ a b, t = finish128 { s.ctx128 with h1 := a, h2 := b, final := true } a b s) := by
  cases i with
  | init128 => exact .inl ⟨rfl, _, _, (Host.Outcome.next.inj h).symm⟩
  | block128 =>
    rcases execBlock128_next h with ⟨e, he, ht⟩ | ⟨_, ht⟩
    · exact .inr (.inl ⟨e, ht, .inr ⟨_, _, he⟩⟩)
    · exact .inr (.inr (.inl ⟨_, _, _, nofun, rfl, by simp [mixesTail128], ht⟩))
  | tail128 n =>
    rcases unlessRaised_next h with ⟨e, he, ht⟩ | ⟨_, hk⟩
    · exact .inr (.inl ⟨e, ht, .inl (eq_illegalCommand_of_tail128CountCheck he)⟩)
    · rcases unlessRaised_next hk with ⟨e, he, ht⟩ | ⟨_, ht⟩
      · exact .inr (.inl ⟨e, ht, .inr ⟨_, _, he⟩⟩)
      · exact .inr (.inr (.inl ⟨_, _, _, nofun, rfl, by simp [mixesTail128], (Host.Outcome.next.inj ht).symm⟩))
  | feed128 =>
    rcases execFeed128_next h with ⟨e, he, ht⟩ | ⟨bs, _, _, ht⟩
    · exact .inr (.inl ⟨e, ht, .inr ⟨_, _, he⟩⟩)
    · exact .inr (.inr (.inl ⟨_, _, _, nofun, rfl, by simp [mixesTail128], ht⟩))
  | fin128 =>
    rcases execFin128_next h with ⟨e, he, ht⟩ | ⟨_, ht⟩
    · exact .inr (.inl ⟨e, ht, .inr ⟨_, _, he⟩⟩)
    · exact .inr (.inr (.inr ⟨rfl, _, _, ht⟩))
  | init32 | block32 | tail32 _ | feed32 | fin32 | fmix32 | fmix64 => cases hi

/-- The flags of a `CTX128` that are set stay set. -/
structure FlagsKept128 (c c' : Ctx128) : Prop where
  final : c.final = true → c'.final = true
  ts : c.ts = true → c'.ts = true
  nonstd : c.nonstd = true → c'.nonstd = true

/-- Every command but INIT128 leaves the flags of `CTX128` that are set (10_state.md R27, R28). -/
theorem exec_keeps_flags128 {i : Instr} {s t : State} (hne : i ≠ .init128) (h : exec i s = .next t) :
    FlagsKept128 s.ctx128 t.ctx128 := by
  cases hi : uses128 i with
  | false =>
    rw [exec_keeps_ctx128 hi h]
    exact ⟨id, id, id⟩
  | true =>
    rcases exec_uses128_next hi h with ⟨rfl, _⟩ | ⟨e, rfl, _⟩ | ⟨a, n, m, _, _, _, rfl⟩ | ⟨_, a, b, rfl⟩
    · exact absurd rfl hne
    · exact ⟨id, id, id⟩
    · exact ⟨id, by simp +contextual [tsAfter], by simp +contextual [nonstdAfter]⟩
    · exact ⟨fun _ => rfl, id, id⟩

/-- A step clears a flag of `CTX128` only by a reset or INIT128. -/
theorem step_keeps_flags128 {s t : State} (h : step s = .next t) :
    FlagsKept128 s.ctx128 t.ctx128 ∨ HeadIs s .reset ∨ HeadCommand s .init128 := by
  rcases step_contexts h with ⟨hc32, hc128⟩ | hr | ⟨i, rest, u, hi, hx, rfl⟩
  · rw [hc128]
    exact .inl ⟨id, id, id⟩
  · exact .inr (.inl hr)
  · by_cases hne : i = .init128
    · exact .inr (.inr (hne ▸ hi))
    · have kept := exec_keeps_flags128 hne hx
      exact .inl kept

end Sys2Proof.Proofs
end

section
/-! The phase rules of both contexts (O26). -/

namespace Sys2Proof.Proofs

open Sys2Proof.Machine Sys2Proof.Safety

theorem tail32CountCheck_of_wellFormed {n : BitVec 4} (hw : (Instr.tail32 n).wellFormed = true) :
    tail32CountCheck n = none :=
  if_pos (of_decide_eq_true hw)

/-- From ABSORB no command of the 32-bit width answers `MISUSE_FINALIZED`. -/
theorem exec_absorb32_lastErr_ne_two {i : Instr} {s t : State} (h : exec i s = .next t)
    (hf : s.ctx32.final = false) (hi : uses32 i = true) : t.lastErr ≠ 2 := by
  rcases exec_uses32_next hi h with ⟨_, a, rfl⟩ | ⟨e, rfl, he⟩ | ⟨a, n, m, _, _, _, rfl⟩ | ⟨_, a, rfl⟩
  · simp
  · refine errorCode_ne_two ?_
    rintro rfl
    rcases he with he | ⟨op, n, he⟩
    · cases he
    · exact admission_ne_misuseFinalized hf _ _ _ _ _ he
  · simp
  · simp

/-- FIN32 takes an ABSORB context to FINAL. -/
theorem exec_fin32_of_absorb {s : State} (hf : s.ctx32.final = false) :
    ∃ t, exec .fin32 s = .next t ∧ t.ctx32.final = true := by
  have ha : admit32 .fin 0 s = none := (admit_none_iff ..).2 ⟨hf, nofun, fun h => absurd rfl h⟩
  rw [exec, execFin32, ha]
  exact ⟨_, rfl, rfl⟩

/-- From FINAL every command of the 32-bit width but INIT32 is rejected with `MISUSE_FINALIZED`. -/
theorem exec_final32 {i : Instr} {s : State} (hw : i.wellFormed = true) (hf : s.ctx32.final = true)
    (hi : uses32 i = true) (hne : i ≠ .init32) : exec i s = .next (failWith 2 s) := by
  have rejects (op : AdmitOp) (n : Nat) (k : Host.Outcome State Fault Refusal) :
      unlessRaised (admit32 op n s) s k = .next (failWith 2 s) := by
    rw [admit32, admit_of_final _ _ _ _ _ hf]
    rfl
  cases i with
  | init32 => exact absurd rfl hne
  | block32 | feed32 | fin32 => exact rejects _ _ _
  | tail32 n =>
    rw [exec, execTail32, tail32CountCheck_of_wellFormed hw]
    exact rejects _ _ _
  | init128 | block128 | tail128 _ | feed128 | fin128 | fmix32 | fmix64 => cases hi

theorem tail128CountCheck_of_wellFormed {n : BitVec 4} (hw : (Instr.tail128 n).wellFormed = true) :
    tail128CountCheck n = none := by
  have ⟨hn, _⟩ : Instr.Tail128CountOk n := of_decide_eq_true hw
  exact if_neg (by omega)

/-- From ABSORB no command of the 128-bit width answers `MISUSE_FINALIZED`. -/
theorem exec_absorb128_lastErr_ne_two {i : Instr} {s t : State} (h : exec i s = .next t)
    (hf : s.ctx128.final = false) (hi : uses128 i = true) : t.lastErr ≠ 2 := by
  rcases exec_uses128_next hi h with ⟨_, a, b, rfl⟩ | ⟨e, rfl, he⟩ | ⟨a, n, m, _, _, _, rfl⟩ | ⟨_, a, b, rfl⟩
  · simp
  · refine errorCode_ne_two ?_
    rintro rfl
    rcases he with he | ⟨op, n, he⟩
    · cases he
    · exact admission_ne_misuseFinalized hf _ _ _ _ _ he
  · simp
  · simp

/-- FIN128 takes an ABSORB context to FINAL. -/
theorem exec_fin128_of_absorb {s : State} (hf : s.ctx128.final = false) :
    ∃ t, exec .fin128 s = .next t ∧ t.ctx128.final = true := by
  have ha : admit128 .fin 0 s = none := (admit_none_iff ..).2 ⟨hf, nofun, fun h => absurd rfl h⟩
  rw [exec, execFin128, ha]
  exact ⟨_, rfl, rfl⟩

/-- From FINAL every command of the 128-bit width but INIT128 is rejected with `MISUSE_FINALIZED`. -/
theorem exec_final128 {i : Instr} {s : State} (hw : i.wellFormed = true) (hf : s.ctx128.final = true)
    (hi : uses128 i = true) (hne : i ≠ .init128) : exec i s = .next (failWith 2 s) := by
  have rejects (op : AdmitOp) (n : Nat) (k : Host.Outcome State Fault Refusal) :
      unlessRaised (admit128 op n s) s k = .next (failWith 2 s) := by
    rw [admit128, admit_of_final _ _ _ _ _ hf]
    rfl
  cases i with
  | init128 => exact absurd rfl hne
  | block128 | feed128 | fin128 => exact rejects _ _ _
  | tail128 n =>
    rw [exec, execTail128, tail128CountCheck_of_wellFormed hw]
    exact rejects _ _ _
  | init32 | block32 | tail32 _ | feed32 | fin32 | fmix32 | fmix64 => cases hi

/-- Settles O26: what ABSORB answers, FIN, what FINAL answers, and that only reset and INIT clear the phase. -/
theorem phaseRules : Obligations.PhaseRules :=
  ⟨fun _ _ _ h => ⟨exec_absorb32_lastErr_ne_two h, exec_absorb128_lastErr_ne_two h⟩,
    fun _ => ⟨exec_fin32_of_absorb, exec_fin128_of_absorb⟩,
    fun _ _ hw => ⟨exec_final32 hw, exec_final128 hw⟩,
    fun _ _ h => ⟨fun hf => (step_keeps_flags32 h).imp_left (·.final hf),
      fun hf => (step_keeps_flags128 h).imp_left (·.final hf)⟩⟩

end Sys2Proof.Proofs
end

section
/-! What sets and clears `ts` and `nonstd` (O27). -/

namespace Sys2Proof.Proofs

open Sys2Proof.Machine Sys2Proof.Safety

/-- A command not of the 32-bit width starts no message, mixes no tail and adds no byte there. -/
theorem no_input_of_not_uses32 {i : Instr} (hi : uses32 i = false) (s : State) :
    i ≠ .init32 ∧ ¬ mixesTail32 s i ∧ inputBytes32 s i = none := by
  cases i with
  | init32 | block32 | tail32 _ | feed32 | fin32 => cases hi
  | init128 | block128 | tail128 _ | feed128 | fin128 | fmix32 | fmix64 => simp [mixesTail32, inputBytes32]

/-- `ts` and `nonstd` of `CTX32` after a successful command (10_state.md R28). -/
theorem exec_success_flags32 {i : Instr} {s t : State} (h : exec i s = .next t) (ok : t.lastErr = 0) :
    (t.ctx32.ts = true ↔ i ≠ .init32 ∧ (s.ctx32.ts = true ∨ mixesTail32 s i)) ∧
    (t.ctx32.nonstd = true ↔ i ≠ .init32 ∧
      (s.ctx32.nonstd = true ∨ (s.ctx32.ts = true ∧ ∃ n, inputBytes32 s i = some n ∧ 0 < n))) := by
  cases hi : uses32 i with
  | false =>
    obtain ⟨hne, hm, hn⟩ := no_input_of_not_uses32 hi s
    simp [exec_keeps_ctx32 hi h, hne, hm, hn]
  | true =>
    rcases exec_uses32_next hi h with ⟨rfl, a, rfl⟩ | ⟨e, rfl, _⟩ | ⟨a, n, m, hne, hn, hm, rfl⟩ | ⟨rfl, a, rfl⟩
    · simp
    · exact absurd ok e.code_ne_zero
    · simp [tsAfter, nonstdAfter, hne, hn, hm]
    · simp [mixesTail32, inputBytes32]

/-- A command not of the 128-bit width starts no message, mixes no tail and adds no byte there. -/
theorem no_input_of_not_uses128 {i : Instr} (hi : uses128 i = false) (s : State) :
    i ≠ .init128 ∧ ¬ mixesTail128 s i ∧ inputBytes128 s i = none := by
  cases i with
  | init128 | block128 | tail128 _ | feed128 | fin128 => cases hi
  | init32 | block32 | tail32 _ | feed32 | fin32 | fmix32 | fmix64 => simp [mixesTail128, inputBytes128]

/-- `ts` and `nonstd` of `CTX128` after a successful command (10_state.md R28). -/
theorem exec_success_flags128 {i : Instr} {s t : State} (h : exec i s = .next t) (ok : t.lastErr = 0) :
    (t.ctx128.ts = true ↔ i ≠ .init128 ∧ (s.ctx128.ts = true ∨ mixesTail128 s i)) ∧
    (t.ctx128.nonstd = true ↔ i ≠ .init128 ∧
      (s.ctx128.nonstd = true ∨ (s.ctx128.ts = true ∧ ∃ n, inputBytes128 s i = some n ∧ 0 < n))) := by
  cases hi : uses128 i with
  | false =>
    obtain ⟨hne, hm, hn⟩ := no_input_of_not_uses128 hi s
    simp [exec_keeps_ctx128 hi h, hne, hm, hn]
  | true =>
    rcases exec_uses128_next hi h with ⟨rfl, a, b, rfl⟩ | ⟨e, rfl, _⟩ | ⟨a, n, m, hne, hn, hm, rfl⟩ | ⟨rfl, a, b, rfl⟩
    · simp
    · exact absurd ok e.code_ne_zero
    · simp [tsAfter, nonstdAfter, hne, hn, hm]
    · simp [mixesTail128, inputBytes128]

/-- Settles O27: the two bits after a success width by width, and that only reset and INIT clear them. -/
theorem tailSeenAndNonstdBits : Obligations.TailSeenAndNonstdBits := by
  refine ⟨fun i s t h ok => ?_, fun s t h => ?_⟩
  · obtain ⟨hts32, hns32⟩ := exec_success_flags32 h ok
    obtain ⟨hts128, hns128⟩ := exec_success_flags128 h ok
    exact ⟨hts32, hns32, hts128, hns128⟩
  · have keeps32 := step_keeps_flags32 h
    have keeps128 := step_keeps_flags128 h
    exact ⟨fun hb => keeps32.imp_left (·.ts hb), fun hb => keeps32.imp_left (·.nonstd hb),
      fun hb => keeps128.imp_left (·.ts hb), fun hb => keeps128.imp_left (·.nonstd hb)⟩

end Sys2Proof.Proofs
end

section
/-! The input buffer (O29): FEED reads only its range, no command writes a byte, and a step changes a byte only by a host
write that covers it or by a reset. -/

namespace Sys2Proof.Proofs

open Sys2Proof.Machine Sys2Proof.Safety

theorem stagingBytes_setIbuf (s : State) (m : List Host.Cell) (n : Nat) :
    stagingBytes (s.setIbuf m) n = stagingBytes s n :=
  stagingBytes_congr (by unfold kdata; rfl) n

/-- Two buffers that agree on the range of a FEED feed the same bytes. -/
theorem feedBytes_setIbuf {s : State} {m : List Host.Cell}
    (h : ∀ j, j < s.flen.toNat → readByte m (s.foff.toNat + j) = readByte s.ibuf (s.foff.toNat + j)) :
    feedBytes (s.setIbuf m) = feedBytes s :=
  readRange_congr h

/-- An admitted FEED names a range in the buffer (60_exceptions.md R203). -/
theorem feedInRange_of_admitted {final ts : Bool} {len : Word} {n : Nat} {s : State}
    (h : admission final ts len .feed n s = none) : FeedInRange s := by
  obtain ⟨_, hr, _⟩ := (admit_none_iff ..).1 h
  exact hr rfl

/-- A change that an error's report does not touch goes through a check, where what follows need allow for it only when
the check passes. -/
theorem unlessRaised_mapNext_of_passed {f : State → State} (hf : ∀ e t, raise e (f t) = f (raise e t))
    {c : Option CmdError} {s : State} {k k' : Host.Outcome State Fault Refusal} (hk : c = none → k' = mapNext f k) :
    unlessRaised c (f s) k' = mapNext f (unlessRaised c s k) := by
  cases c with
  | none => exact hk rfl
  | some e => exact congrArg Host.Outcome.next (hf e s)

/-- A command runs the same with the input buffer replaced, as long as an in-range FEED finds the bytes of its range, and
leaves the replacement (20_memory.md R55). A FEED out of range is rejected before it reads the buffer. -/
theorem exec_setIbuf {i : Instr} {s : State} {m : List Host.Cell}
    (h : (i = .feed32 ∨ i = .feed128) → FeedInRange s →
      ∀ j, j < s.flen.toNat → readByte m (s.foff.toNat + j) = readByte s.ibuf (s.foff.toNat + j)) :
    exec i (s.setIbuf m) = mapNext (fun t => t.setIbuf m) (exec i s) := by
  have through := @unlessRaised_mapNext (fun t => t.setIbuf m) (fun _ _ => rfl)
  cases i with
  | init32 | init128 | fmix32 | fmix64 => rfl
  | block32 | block128 | fin32 | fin128 => exact through rfl
  | tail32 n | tail128 n => exact through (through (by rw [stagingBytes_setIbuf]; rfl))
  | feed32 | feed128 =>
    refine @unlessRaised_mapNext_of_passed (fun t => t.setIbuf m) (fun _ _ => rfl) _ _ _ _ fun admitted => ?_
    rw [feedBytes_setIbuf (h (by simp) (feedInRange_of_admitted admitted))]
    cases feedBytes s <;> rfl

/-- No command writes the input buffer: with the buffer replaced by itself, `exec_setIbuf` leaves it. -/
theorem exec_keeps_ibuf {i : Instr} {s t : State} (h : exec i s = .next t) : t.ibuf = s.ibuf := by
  have hx : exec i s = mapNext (fun t => t.setIbuf s.ibuf) (exec i s) := exec_setIbuf fun _ _ _ _ => rfl
  rw [h] at hx
  have ht := Host.Outcome.next.inj hx
  rw [ht]
  rfl

/-- No register write, a command issued through `CMD` among them, writes the input buffer. -/
theorem writeReg_keeps_ibuf {r : Reg} {v : Word} {s t : State} (h : writeReg r v s = .next t) : t.ibuf = s.ibuf := by
  rcases writeReg_cases r v s with hb | ⟨_, hc⟩ | ⟨u, hu, hf⟩
  · cases hb ▸ h
  · rcases issueCommand_next (hc ▸ h) with rfl | ⟨i, _, hx⟩
    · rfl
    · exact exec_keeps_ibuf hx
  · obtain rfl : u = t := Host.Outcome.next.inj (hu.symm.trans h)
    rcases hf with rfl | rfl | rfl | rfl | rfl | rfl | rfl <;> rfl

/-- A window write leaves the input buffer, or stores its value there. -/
theorem windowWrite_ibuf {off size : Nat} {v : Word} {s t : State} (h : windowWrite off size v s = .next t) :
    t.ibuf = s.ibuf ∨ (0x1000 ≤ off ∧ t.ibuf = writeBytes s.ibuf (off - 0x1000) v size) := by
  rcases windowWrite_cases off size v s with hb | ⟨r, _, _, hr⟩ | ⟨ho, _, hw⟩
  · cases hb ▸ h
  · exact .inl (writeReg_keeps_ibuf (hr ▸ h))
  · obtain rfl := Host.Outcome.next.inj (hw.symm.trans h)
    exact .inr ⟨ho, rfl⟩

/-- What a step can do to the input buffer: nothing, a reset that empties it, or a host write's store. -/
theorem step_ibuf {s t : State} (h : step s = .next t) :
    t.ibuf = s.ibuf ∨ (HeadIs s .reset ∧ t.ibuf = []) ∨
    ∃ x size v, HeadIs s (.write (s.params.base + (0x1000 + x)) size v) ∧ t.ibuf = writeBytes s.ibuf x v size := by
  rcases step_next h with ⟨_, rfl⟩ | ⟨e, es, hp, hs⟩
  · exact .inl rfl
  rcases serve_next hs with ⟨r, rfl⟩ | ⟨addr, size, v, u, rfl, ⟨hbase, _⟩, hu, rfl⟩ | ⟨rfl, rfl⟩
  · exact .inl rfl
  · rcases windowWrite_ibuf hu with hsame | ⟨ho, hstore⟩
    · exact .inl hsame
    · simp only [State.setPending_params, State.setPending_ibuf] at hbase ho hstore
      have haddr : addr = s.params.base + (0x1000 + (addr - s.params.base - 0x1000)) := by omega
      exact .inr (.inr ⟨_, size, v, ⟨es, haddr ▸ hp⟩, hstore⟩)
  · exact .inr (.inl ⟨⟨es, hp⟩, rfl⟩)

/-- A store changes a byte only in its own range, to that byte of the value. -/
theorem readByte_writeBytes_changed {m : List Host.Cell} {x a size : Nat} {v : Word}
    (h : readByte (writeBytes m x v size) a ≠ readByte m a) :
    x ≤ a ∧ a < x + size ∧ readByte (writeBytes m x v size) a = some (byteOf v (a - x)) := by
  rw [readByte_writeBytes] at h ⊢
  by_cases hc : x ≤ a ∧ a < x + size
  · exact ⟨hc.1, hc.2, if_pos hc⟩
  · exact absurd (if_neg hc) h

/-- Settles O29: commands by `exec_setIbuf`, steps by what each can do to the buffer. -/
theorem ibufReadOnlyByFeedInRange : Obligations.IbufReadOnlyByFeedInRange := by
  refine ⟨fun i s m h => exec_setIbuf h, fun s t a h hne => ?_⟩
  rcases step_ibuf h with hsame | ⟨hr, hempty⟩ | ⟨x, size, v, hw, hstore⟩
  · exact absurd (by rw [hsame]) hne
  · exact .inl ⟨hr, by rw [hempty, readByte_nil]⟩
  · rw [hstore] at hne ⊢
    exact .inr ⟨x, size, v, hw, readByte_writeBytes_changed hne⟩

end Sys2Proof.Proofs
end

section
/-! The illegal words (O4) and the words of the map (O1): the fields of a word as numbers, and what the decoder rejects
by them. -/

namespace Sys2Proof.Proofs

open Sys2Proof.Machine Sys2Proof.Safety

theorem opField_toNat (w : Word) : (opField w).toNat = w.toNat % 16 := by
  simp [opField]

theorem widthField_eq (w : Word) : widthField w = decide (w.toNat / 16 % 2 = 1) := by
  simp [widthField, BitVec.getLsbD, Nat.testBit_eq_decide_div_mod_eq]

theorem rz0Field_eq_zero_iff (w : Word) : rz0Field w = 0 ↔ w.toNat / 32 % 8 = 0 := by
  simp [rz0Field, ← BitVec.toNat_inj, Nat.shiftRight_eq_div_pow]

theorem countField_toNat (w : Word) : (countField w).toNat = w.toNat / 256 % 16 := by
  simp [countField, Nat.shiftRight_eq_div_pow]

theorem rz1Field_eq_zero_iff (w : Word) : rz1Field w = 0 ↔ w.toNat / 4096 = 0 := by
  have hw : w.toNat / 4096 % 1048576 = w.toNat / 4096 := by omega
  simp [rz1Field, ← BitVec.toNat_inj, Nat.shiftRight_eq_div_pow, hw]

/-- The illegal words by their fields as numbers: 30_encoding.md R76, as O4 states it. -/
def IllegalFields (w : Word) : Prop :=
  w.toNat % 16 = 0 ∨ 7 ≤ w.toNat % 16 ∨ w.toNat / 32 % 8 ≠ 0 ∨ w.toNat / 4096 ≠ 0 ∨
    (w.toNat / 256 % 16 ≠ 0 ∧ w.toNat % 16 ≠ 3) ∨
    (w.toNat % 16 = 3 ∧ w.toNat / 16 % 2 = 0 ∧ (w.toNat / 256 % 16 = 0 ∨ 4 ≤ w.toNat / 256 % 16)) ∨
    (w.toNat % 16 = 3 ∧ w.toNat / 16 % 2 = 1 ∧ w.toNat / 256 % 16 = 0)

/-- A decoder's answer is a rejection where `p` holds and a command of the map where it does not. -/
def RejectsExactly (p : Prop) (d : Decoded) : Prop :=
  (p → ∃ r, d = .illegal r) ∧ (¬p → ∃ i, d = .command i ∧ i.wellFormed = true)

theorem RejectsExactly.congr {p q : Prop} {d : Decoded} (h : RejectsExactly p d) (hpq : q ↔ p) : RejectsExactly q d :=
  ⟨fun hq => h.1 (hpq.1 hq), fun hq => h.2 (mt hpq.2 hq)⟩

theorem RejectsExactly.of_illegal {p : Prop} (hp : p) (r : IllegalReason) : RejectsExactly p (.illegal r) :=
  ⟨fun _ => ⟨r, rfl⟩, fun h => absurd hp h⟩

/-- A command without a count is rejected exactly when it carries one. -/
theorem decodePlain_rejectsExactly {i : Instr} (hi : i.wellFormed = true) (n : BitVec 4) :
    RejectsExactly (n.toNat ≠ 0) (decodePlain n i) := by
  have hn : n = 0 ↔ n.toNat = 0 := by simp [← BitVec.toNat_inj]
  by_cases h : n = 0
  · exact ⟨fun hne => absurd (hn.1 h) hne, fun _ => ⟨i, if_pos h, hi⟩⟩
  · exact ⟨fun _ => ⟨_, if_neg h⟩, fun hne => absurd (mt hn.2 h) hne⟩

/-- A TAIL is rejected exactly when its count is out of the range of its width. -/
theorem decodeTail_rejectsExactly (wide : Bool) (n : BitVec 4) :
    RejectsExactly (n.toNat = 0 ∨ (wide = false ∧ 4 ≤ n.toNat)) (decodeTail wide n) := by
  have hlt : n.toNat < 16 := n.isLt
  cases wide with
  | false =>
    by_cases hn : 1 ≤ n.toNat ∧ n.toNat ≤ 3
    · exact ⟨fun _ => by omega, fun _ => ⟨.tail32 n, if_pos ⟨rfl, hn⟩, decide_eq_true hn⟩⟩
    · have hd : decodeTail false n = .illegal .tailCount := by simp [decodeTail, hn]
      have hout : n.toNat = 0 ∨ 4 ≤ n.toNat := by omega
      exact hd ▸ .of_illegal (hout.imp_right (⟨rfl, ·⟩)) _
  | true =>
    by_cases hn : 1 ≤ n.toNat ∧ n.toNat ≤ 15
    · have hd : decodeTail true n = .command (.tail128 n) := by simp [decodeTail, hn]
      have hne : n.toNat ≠ 0 := by omega
      exact ⟨fun h => h.elim (absurd · hne) (nomatch ·.1), fun _ => ⟨.tail128 n, hd, decide_eq_true hn⟩⟩
    · have hd : decodeTail true n = .illegal .tailCount := by simp [decodeTail, hn]
      exact hd ▸ .of_illegal (.inl (by omega)) _

/-- The decoder rejects exactly the words that 30_encoding.md R76 lists. -/
theorem decode_rejectsExactly (w : Word) : RejectsExactly (IllegalFields w) (decode w) := by
  have hop := opField_toNat w
  have hn := countField_toNat w
  unfold decode
  split
  case isTrue hrz =>
    rw [Ne, Ne, rz0Field_eq_zero_iff, rz1Field_eq_zero_iff] at hrz
    refine .of_illegal ?_ _
    unfold IllegalFields; omega
  case isFalse hrz =>
    rw [not_or, not_not, not_not, rz0Field_eq_zero_iff, rz1Field_eq_zero_iff] at hrz
    have plain (hplain : w.toNat % 16 ∈ [1, 2, 4, 5, 6]) : IllegalFields w ↔ (countField w).toNat ≠ 0 := by
      simp only [List.mem_cons, List.not_mem_nil, or_false] at hplain
      unfold IllegalFields; omega
    split
    case h_3 h3 =>
      refine (decodeTail_rejectsExactly _ _).congr ?_
      rw [widthField_eq, decide_eq_false_iff_not]
      unfold IllegalFields; omega
    case h_7 h1 h2 h3 h4 h5 h6 =>
      refine .of_illegal ?_ _
      rw [imp_false] at h1 h2 h3 h4 h5 h6
      unfold IllegalFields; omega
    all_goals
      rename_i hk
      refine (decodePlain_rejectsExactly ?_ _).congr (plain (by simp [← hop, hk]))
      cases widthField w <;> rfl

theorem issueCommand_of_illegal {w : Word} {r : IllegalReason} (h : decode w = .illegal r) (s : State) :
    issueCommand w s = .next (failWith 5 s) := by
  simp [issueCommand, h, raise, failWith, CmdError.code]

theorem issueCommand_of_command {w : Word} {i : Instr} (h : decode w = .command i) (s : State) :
    issueCommand w s = exec i s := by
  simp [issueCommand, h]

/-- Settles O4: the decoder rejects exactly the listed words, and issuing follows the decoder. -/
theorem illegalWordsAreExactlyThese : Obligations.IllegalWordsAreExactlyThese := by
  intro w s
  obtain ⟨rejects, accepts⟩ := decode_rejectsExactly w
  refine ⟨fun h => ?_, fun h => ?_⟩
  · obtain ⟨r, hr⟩ := rejects h
    exact issueCommand_of_illegal hr s
  · obtain ⟨i, hi, hwf⟩ := accepts h
    exact ⟨i, hi, hwf, issueCommand_of_command hi s⟩

/-- Settles O1: the decoder computes each of these words. -/
theorem specWordsDecode : Obligations.SpecWordsDecode := by
  unfold Obligations.SpecWordsDecode
  decide

end Sys2Proof.Proofs
end

section
/-! The host assembly of commands (O49, O50): a mnemonic's word is served by running its command, and operand writes
before it only set their registers. -/

namespace Sys2Proof.Proofs

open Sys2Proof.Machine Sys2Proof.Safety

/-- A command of the map is read back from its own word. -/
theorem decode_encode {i : Instr} (hi : i.wellFormed = true) : decode (encode i) = .command i := by
  cases i with
  | tail32 n | tail128 n => revert n; decide
  | init32 | block32 | feed32 | init128 | block128 | feed128 | fin32 | fin128 | fmix32 | fmix64 => decide

/-- A step that faces a bare mnemonic runs its command. -/
theorem step_asmCommand {s : State} {i : Instr} {rest : List HostEvent} (hi : i.wellFormed = true)
    (hp : s.pending = asmCommand s.params i :: rest) :
    step s = mapNext (fun t => t.setReply .written) (exec i (s.setPending rest)) :=
  (step_registerWrite (r := .cmd) hp).trans
    (congrArg (mapNext _) (issueCommand_of_command (decode_encode hi) _))

/-- Settles O49: the words by evaluating the encoder, the step by `step_asmCommand`. -/
theorem mnemonicWriteRunsCommand : Obligations.MnemonicWriteRunsCommand :=
  ⟨fun _ _ => rfl, rfl, rfl, rfl, rfl, fun _ => rfl, fun _ => rfl, rfl, rfl, rfl, rfl, rfl, rfl,
    fun _ _ _ hi hp => step_asmCommand hi hp⟩

theorem stagingBytes_setReply (s : State) (r : Reply) (n : Nat) : stagingBytes (s.setReply r) n = stagingBytes s n :=
  stagingBytes_congr (by unfold kdata; rfl) n

/-- No command reads or writes the port's last answer. -/
theorem exec_setReply (i : Instr) (s : State) (r : Reply) :
    exec i (s.setReply r) = mapNext (fun t => t.setReply r) (exec i s) := by
  have through := @unlessRaised_mapNext (fun t => t.setReply r) (fun _ _ => rfl)
  cases i with
  | init32 | init128 | fmix32 | fmix64 => rfl
  | block32 | block128 | fin32 | fin128 => exact through rfl
  | tail32 n | tail128 n => exact through (through (by rw [stagingBytes_setReply]; rfl))
  | feed32 | feed128 =>
    have hb : feedBytes (s.setReply r) = feedBytes s := rfl
    refine through ?_
    rw [hb]
    cases feedBytes s <;> rfl

/-- Two answers to the port, one before and one after a command, are the later one. -/
theorem mapNext_exec_setReply (i : Instr) (s : State) (r r' : Reply) :
    mapNext (fun t => t.setReply r') (exec i (s.setReply r)) = mapNext (fun t => t.setReply r') (exec i s) := by
  rw [exec_setReply]
  cases exec i s <;> rfl

/-- The registers that operand mnemonics write (30_encoding.md R81). -/
def operandRegs : List Reg := [.seed, .kdata0, .kdata1, .kdata2, .kdata3, .foff, .flen]

/-- The state after a write of an operand register. -/
def storeOperand (s : State) (w : Reg × Word) : State :=
  match w.1 with
  | .seed => { s with seed := w.2 }
  | .kdata0 => { s with kdata0 := w.2 }
  | .kdata1 => { s with kdata1 := w.2 }
  | .kdata2 => { s with kdata2 := w.2 }
  | .kdata3 => { s with kdata3 := w.2 }
  | .foff => { s with foff := w.2 }
  | .flen => { s with flen := w.2 }
  | _ => s

theorem writeReg_operand {w : Reg × Word} (hw : w.1 ∈ operandRegs) (s : State) :
    writeReg w.1 w.2 s = .next (storeOperand s w) := by
  obtain ⟨r, v⟩ := w
  cases r
  case seed | kdata0 | kdata1 | kdata2 | kdata3 | foff | flen => rfl
  all_goals simp [operandRegs] at hw

@[simp] theorem storeOperand_params (s : State) (w : Reg × Word) : (storeOperand s w).params = s.params := by
  obtain ⟨r, v⟩ := w
  cases r <;> rfl

theorem storeOperand_setPending (s : State) (w : Reg × Word) (es : List HostEvent) :
    storeOperand (s.setPending es) w = (storeOperand s w).setPending es := by
  obtain ⟨r, v⟩ := w
  cases r <;> rfl

theorem storeOperand_setReply (s : State) (w : Reg × Word) (a : Reply) :
    storeOperand (s.setReply a) w = (storeOperand s w).setReply a := by
  obtain ⟨r, v⟩ := w
  cases r <;> rfl

/-- A step that faces an operand write stores the operand and acknowledges it. -/
theorem step_asmWr_operand {s : State} {w : Reg × Word} {rest : List HostEvent} (hw : w.1 ∈ operandRegs)
    (hp : s.pending = asmWr s.params w.1 w.2 :: rest) :
    step s = .next (((storeOperand s w).setPending rest).setReply .written) := by
  rw [step_registerWrite hp, writeReg_operand hw, storeOperand_setPending]
  rfl

/-- The port's own fields do not meet the operands of the writes to come. -/
theorem foldl_storeOperand_setPending_setReply (ws : List (Reg × Word)) (s : State) (es : List HostEvent) (a : Reply) :
    ws.foldl storeOperand ((s.setPending es).setReply a) = ((ws.foldl storeOperand s).setPending es).setReply a := by
  rw [List.foldl_hom (fun t => State.setReply t a) fun t w => storeOperand_setReply t w a,
    List.foldl_hom (fun t => State.setPending t es) fun t w => storeOperand_setPending t w es]

/-- Operand writes and then a bare mnemonic: as many steps as events run the command on the state with the operands
stored (30_encoding.md R81), by induction on the writes. -/
theorem steps_operandWrites_asmCommand {i : Instr} (hi : i.wellFormed = true) {rest : List HostEvent}
    (ws : List (Reg × Word)) (hws : ∀ w ∈ ws, w.1 ∈ operandRegs) {s : State}
    (hp : s.pending = ws.map (fun w => asmWr s.params w.1 w.2) ++ asmCommand s.params i :: rest) :
    steps (ws.length + 1) s =
      mapNext (fun t => t.setReply .written) (exec i ((ws.foldl storeOperand s).setPending rest)) := by
  induction ws generalizing s with
  | nil =>
    rw [List.foldl_nil, ← step_asmCommand hi hp, List.length_nil, steps]
    cases step s <;> rfl
  | cons w ws ih =>
    obtain ⟨hw, hws⟩ := List.forall_mem_cons.1 hws
    have ih := ih hws (s := ((storeOperand s w).setPending _).setReply .written)
      (by rw [State.setReply_params, State.setPending_params, storeOperand_params]; rfl)
    rw [foldl_storeOperand_setPending_setReply] at ih
    rw [List.length_cons, steps, step_asmWr_operand hw hp, andThen, List.foldl_cons]
    exact ih.trans <|
      mapNext_exec_setReply i ((ws.foldl storeOperand (storeOperand s w)).setPending rest) .written .written

/-- Settles O50: each mnemonic is a list of operand writes and its command. -/
theorem operandMnemonicsExpand : Obligations.OperandMnemonicsExpand := fun _ a b c d _ =>
  ⟨steps_operandWrites_asmCommand rfl [(.seed, a)] (by simp [operandRegs]),
    steps_operandWrites_asmCommand rfl [(.seed, a)] (by simp [operandRegs]),
    steps_operandWrites_asmCommand rfl [(.kdata0, a)] (by simp [operandRegs]),
    steps_operandWrites_asmCommand rfl [(.kdata0, a), (.kdata1, b), (.kdata2, c), (.kdata3, d)] (by simp [operandRegs]),
    steps_operandWrites_asmCommand rfl [(.foff, a), (.flen, b)] (by simp [operandRegs]),
    steps_operandWrites_asmCommand rfl [(.foff, a), (.flen, b)] (by simp [operandRegs])⟩

end Sys2Proof.Proofs
end

section
/-! The tail words (O54): a little-endian value is built byte by byte by or, and has no bit above its last byte. -/

namespace Sys2Proof.Proofs

open Sys2Proof.Machine

/-- A list as the values of a function on its indices. -/
theorem map_getD_range (b : List Byte) : (List.range b.length).map (fun i => b.getD i 0) = b :=
  List.ext_getElem (by simp) (by simp +contextual)

/-- A byte added at the end lands above the bytes before it (20_memory.md R52). -/
theorem leWord_concat (w : Nat) (bs : List Byte) (b : Byte) :
    leWord w (bs ++ [b]) = leWord w bs ||| (b.setWidth w <<< (8 * bs.length)) := by
  induction bs with
  | nil => simp
  | cons x xs ih =>
    have hlen : 8 * (x :: xs).length = 8 * xs.length + 8 := by rw [List.length_cons]; omega
    rw [List.cons_append, leWord_cons, leWord_cons, ih, hlen, BitVec.shiftLeft_or_distrib, BitVec.shiftLeft_add,
      BitVec.or_assoc]

/-- The loop of 40_murmur32_mixer.md R104, byte `j` at bit `8j`, builds the little-endian value. -/
theorem foldl_orByte (w : Nat) (f : Nat → Byte) (r : Nat) :
    (List.range r).foldl (fun k j => k ||| ((f j).setWidth w <<< (8 * j))) 0 = leWord w ((List.range r).map f) := by
  induction r with
  | zero => rfl
  | succ r ih =>
    rw [List.range_succ, List.foldl_append, ih, List.map_append, List.map_singleton, leWord_concat, List.length_map,
      List.length_range]
    rfl

/-- The loop of 41_murmur128_mixer.md R134 builds two values: the bytes before the eighth go to `k1`, the others to
`k2`. -/
theorem foldl_orByte_pair (f : Nat → Byte) (r : Nat) :
    (List.range r).foldl
        (fun k i =>
          if i < 8 then (k.1 ||| ((f i).setWidth 64 <<< (8 * i)), k.2)
          else (k.1, k.2 ||| ((f i).setWidth 64 <<< (8 * (i - 8)))))
        ((0, 0) : DWord × DWord) =
      tailwords128 ((List.range r).map f) := by
  induction r with
  | zero => rfl
  | succ r ih =>
    rw [List.range_succ, List.foldl_append, ih, List.map_append, List.map_singleton, tailwords128, tailwords128]
    by_cases hr : r < 8
    · simp [hr, leWord_concat, List.take_of_length_le, List.drop_of_length_le, hr.le, Nat.succ_le_of_lt hr]
    · simp [hr, leWord_concat, List.take_append_of_le_length, List.drop_append_of_le_length, not_lt.1 hr]

/-- A little-endian value has no bit above its last byte. -/
theorem leWord_toNat_lt (w : Nat) (bs : List Byte) : (leWord w bs).toNat < 2 ^ (8 * bs.length) := by
  induction bs with
  | nil => simp
  | cons b bs ih =>
    have hlen : 8 * (b :: bs).length = 8 * bs.length + 8 := by rw [List.length_cons]; omega
    rw [leWord_cons, BitVec.toNat_or, hlen]
    refine Nat.or_lt_two_pow ?_ ?_
    · rw [BitVec.toNat_setWidth]
      exact (Nat.mod_le _ _).trans_lt (b.isLt.trans_le (Nat.pow_le_pow_right (by decide) (Nat.le_add_left 8 _)))
    · rw [BitVec.toNat_shiftLeft, Nat.shiftLeft_eq, Nat.pow_add]
      exact (Nat.mod_le _ _).trans_lt (Nat.mul_lt_mul_of_pos_right ih (by decide))

/-- Settles O54: each loop builds its tail words, and the bound on the top bits is that of a value of 3 (7) bytes. -/
theorem tailSteps : Obligations.TailSteps := by
  refine ⟨fun h b _ hb => ?_, fun h1 h2 b _ hb => ?_⟩
  · have hk : tailword32 b = _ := (congrArg (leWord 32) (map_getD_range b)).symm.trans (foldl_orByte 32 _ _).symm
    have hlt : (tailword32 b).toNat < 2 ^ 24 :=
      (leWord_toNat_lt 32 b).trans_le (Nat.pow_le_pow_right (by decide) (by omega))
    exact ⟨hk, hk ▸ hlt, hk ▸ rfl⟩
  · have hk : tailwords128 b = _ := (congrArg tailwords128 (map_getD_range b)).symm.trans (foldl_orByte_pair _ _).symm
    have hlt : (tailwords128 b).2.toNat < 2 ^ 56 :=
      (leWord_toNat_lt 64 (b.drop 8)).trans_le
        (Nat.pow_le_pow_right (by decide) (by rw [List.length_drop]; omega))
    exact ⟨hk, hk ▸ hlt, hk ▸ rfl⟩

end Sys2Proof.Proofs
end

section
/-! INIT32, BLOCK32 and TAIL32 in every state (O7, O9, O10): the outcome of each admission check, the context a success
leaves, and the tail word of the staged bytes. -/

namespace Sys2Proof.Proofs

open Sys2Proof.Machine Sys2Proof.Safety

/-- A tail before the input is reported under FAULT (60_exceptions.md R204). -/
theorem unlessRaised_admission_of_tail {final ts : Bool} {len : Word} {op : AdmitOp} {n : Nat} {s : State}
    {k : Host.Outcome State Fault Refusal} (hf : final = false) (hr : op = .feed → FeedInRange s) (ho : op ≠ .fin)
    (hn : 0 < n) (ht : ts = true) (hp : s.params.tailPolicy = .fault) :
    unlessRaised (admission final ts len op n s) s k = .next (failWith 3 s) := by
  rw [admit_of_tail len s hf hr ho hn ht hp]
  rfl

/-- A length past the limit is reported (60_exceptions.md R207). -/
theorem unlessRaised_admission_of_overflow {final ts : Bool} {len : Word} {op : AdmitOp} {n : Nat} {s : State}
    {k : Host.Outcome State Fault Refusal} (hf : final = false) (hr : op = .feed → FeedInRange s) (ho : op ≠ .fin)
    (ht : ts = true → n = 0 ∨ s.params.tailPolicy = .reference) (hl : 4294967295 < len.toNat + n) :
    unlessRaised (admission final ts len op n s) s k = .next (failWith 4 s) := by
  rw [admit_of_overflow s hf hr ho ht hl]
  rfl

/-- A context that may take `n` bytes admits every input of `n` bytes, a FEED of them if its range is in the buffer. -/
theorem admit32_of_ready {s : State} {n : Nat} (h : Ready32 s n) (op : AdmitOp)
    (hr : op = .feed → FeedInRange s) : admit32 op n s = none := by
  obtain ⟨hf, ht, hl⟩ := h
  exact (admit_none_iff ..).2 ⟨hf, hr, fun _ => ⟨ht, hl⟩⟩

/-- `CTX32` after an accepted input, field by field, the length as a number (40_murmur32_mixer.md R105, R110, R115). -/
theorem absorbed32_eq {c : Ctx32} (hf : c.final = false) (h : Word) (n : Nat) (mixedTail : Bool) :
    c.absorbed h n mixedTail =
      { h := h, len := BitVec.ofNat 32 (c.len.toNat + n), final := false, ts := c.ts || mixedTail
        nonstd := c.nonstd || (c.ts && decide (0 < n)) } := by
  simp [Ctx32.absorbed, tsAfter, nonstdAfter, hf, BitVec.ofNat_add]

/-- 40_murmur32_mixer.md R102, with the rotation of a bit vector. -/
theorem mixk32_eq (k : Word) : mixk32 k = 0x1b873593 * (0xcc9e2d51 * k).rotateLeft 15 := by
  rw [mixk32, rotl32_eq_rotateLeft _ (by decide)]

/-- 40_murmur32_mixer.md R103, with the rotations of a bit vector. -/
theorem block32_eq (h k : Word) :
    block32 h k = 0xe6546b64 + 5 * (h ^^^ 0x1b873593 * (0xcc9e2d51 * k).rotateLeft 15).rotateLeft 13 := by
  rw [block32, rotl32_eq_rotateLeft _ (by decide), mixk32_eq]

theorem stagingFrom_eq_map (s : State) (j n : Nat) :
    stagingFrom s j n = (List.range n).map (fun i => stagingByte s (j + i)) := by
  induction n generalizing j with
  | zero => rfl
  | succ n ih => simp [stagingFrom, ih, List.range_succ_eq_map, Nat.add_assoc, Nat.add_comm 1]

/-- The staged bytes by index. -/
theorem stagingBytes_eq_map (s : State) (n : Nat) : stagingBytes s n = (List.range n).map (stagingByte s) := by
  simp [stagingBytes, stagingFrom_eq_map]

theorem getLsbD_byteOf (v : Word) (i : Nat) {m : Nat} (hm : m < 8) :
    (byteOf v i).getLsbD m = v.getLsbD (8 * i + m) := by
  simp [byteOf, hm]

/-- The tail word of TAIL32 is the low bytes of `KDATA0`: the staging bytes from `S(n)` on are ignored
(40_murmur32_mixer.md R110). -/
theorem tailword32_stagingBytes (s : State) {n : Nat} (hn : n ≤ 3) :
    tailword32 (stagingBytes s n) = BitVec.ofNat 32 (s.kdata0.toNat % 256 ^ n) := by
  have hpow : 256 ^ n = 2 ^ (8 * n) := by rw [Nat.pow_mul]
  apply BitVec.eq_of_getLsbD_eq
  intro k hk
  rw [tailword32, getLsbD_leWord _ _ hk, stagingBytes_eq_map, hpow, BitVec.getLsbD_ofNat, Nat.testBit_mod_two_pow]
  by_cases h : k < 8 * n
  · have hi : k / 8 < n := by omega
    have hreg : k / 8 / 4 = 0 := by omega
    have hbit : 8 * (k / 8 % 4) + k % 8 = k := by omega
    have hbyte : (stagingByte s (k / 8)).getLsbD (k % 8) = s.kdata0.getLsbD k := by
      rw [stagingByte, hreg, getLsbD_byteOf _ _ (Nat.mod_lt k (by decide)), hbit, kdata]
    simp [h, hk, hi, hbyte, BitVec.testBit_toNat]
  · have hi : ¬ k / 8 < n := by omega
    simp [h, hi]

theorem exec_block32_of_ready {s : State} (h : Ready32 s 4) :
    exec .block32 s = .next (succeed32 (s.ctx32.absorbed (block32 s.ctx32.h s.kdata0) 4 false) s) := by
  rw [exec, execBlock32, admit32_of_ready h .block nofun]
  rfl

/-- Past its count check TAIL32 answers what its admission check and mix answer. -/
theorem exec_tail32_of_count {n : BitVec 4} (hn : Instr.Tail32CountOk n) (s : State) :
    exec (.tail32 n) s = unlessRaised (admit32 .tail n.toNat s) s
      (.next (succeed32 (s.ctx32.absorbed (tail32 s.ctx32.h (stagingBytes s n.toNat)) n.toNat true) s)) := by
  rw [exec, execTail32, tail32CountCheck, if_pos hn]
  rfl

theorem exec_tail32_of_ready {s : State} {n : BitVec 4} (hn : Instr.Tail32CountOk n) (h : Ready32 s n.toNat) :
    exec (.tail32 n) s = .next
      (succeed32 (s.ctx32.absorbed (tail32 s.ctx32.h (stagingBytes s n.toNat)) n.toNat true) s) := by
  rw [exec_tail32_of_count hn, admit32_of_ready h .tail nofun]
  rfl

/-- Settles O7, by the definition of INIT32. -/
theorem init32Result : Obligations.Init32Result :=
  ⟨by decide, fun _ => rfl⟩

/-- Settles O9: the admission checks in order, then the block step. -/
theorem block32Result : Obligations.Block32Result := by
  refine ⟨by decide, by decide, fun s => ⟨fun hr => ?_, fun hf => exec_final32 rfl hf rfl nofun,
    fun hf ht hp => unlessRaised_admission_of_tail hf nofun nofun (by decide) ht hp,
    fun hf ht hl => unlessRaised_admission_of_overflow hf nofun nofun (fun h => .inr (ht h)) hl⟩⟩
  rw [exec_block32_of_ready hr, absorbed32_eq hr.1, block32_eq]
  simp [succeed32]

/-- Settles O10: the count check, the admission checks in order, then the tail step. -/
theorem tail32Result : Obligations.Tail32Result := by
  refine ⟨⟨by decide, by decide, by decide⟩, fun s n => ⟨fun h1 h3 hr => ?_, fun hn => ?_, fun h1 h3 hf => ?_,
    fun h1 h3 hf ht hp => ?_, fun h1 h3 hf ht hl => ?_⟩⟩
  · rw [exec_tail32_of_ready ⟨h1, h3⟩ hr, absorbed32_eq hr.1, tail32, tailword32_stagingBytes s h3, mixk32_eq]
    simp [succeed32, Nat.lt_of_succ_le h1]
  · have hc : ¬(1 ≤ n.toNat ∧ n.toNat ≤ 3) := by omega
    rw [exec, execTail32, tail32CountCheck, if_neg hc]
    rfl
  · exact exec_final32 (decide_eq_true ⟨h1, h3⟩) hf rfl nofun
  · rw [exec_tail32_of_count ⟨h1, h3⟩]
    exact unlessRaised_admission_of_tail hf nofun nofun h1 ht hp
  · rw [exec_tail32_of_count ⟨h1, h3⟩]
    exact unlessRaised_admission_of_overflow hf nofun nofun (fun h => .inr (ht h)) hl

end Sys2Proof.Proofs
end

section
/-! FEED32 in every state (O11): the fed bytes by index, and the loops of 40_murmur32_mixer.md R115 over them. -/

namespace Sys2Proof.Proofs

open Sys2Proof.Machine Sys2Proof.Safety

/-- The `n` bytes of `IBUF` from offset `a` on, on states where they have been written. -/
def ibufBytes (s : State) (a n : Nat) : List Byte := (List.range n).map (fun j => ibufByte s (a + j))

@[simp] theorem length_ibufBytes (s : State) (a n : Nat) : (ibufBytes s a n).length = n := by
  simp [ibufBytes]

/-- A FEED of a written range feeds its bytes in order. -/
theorem feedBytes_of_written {s : State} (hw : FeedWritten s) :
    feedBytes s = some (ibufBytes s s.foff.toNat s.flen.toNat) := by
  obtain ⟨bs, hbs⟩ := Option.isSome_iff_exists.1 ((readRange_isSome_iff ..).2 hw)
  have hlen := readRange_length hbs
  rw [feedBytes, hbs]
  refine congrArg some (List.ext_getElem (by simp [hlen]) fun i hi _ => ?_)
  simp [ibufBytes, ibufByte, readRange_get hbs (hlen ▸ hi), hi]

/-- A part of a range of bytes is the range of its own offsets. -/
theorem take_drop_ibufBytes (s : State) (a : Nat) {i m n : Nat} (h : i + m ≤ n) :
    ((ibufBytes s a n).drop i).take m = ibufBytes s (a + i) m := by
  refine List.ext_getElem ?_ fun j _ _ => by simp [ibufBytes, Nat.add_assoc]
  rw [List.length_take, List.length_drop, length_ibufBytes, length_ibufBytes]
  omega

/-- A little-endian value with its first byte split off. -/
theorem leWord_cons_eq_append (w : Nat) (b : Byte) (bs : List Byte) : leWord (w + 8) (b :: bs) = leWord w bs ++ b := by
  apply BitVec.eq_of_getLsbD_eq
  intro k hk
  rw [getLsbD_leWord _ _ hk, BitVec.getLsbD_append]
  by_cases h : k < 8
  · simp [h, Nat.div_eq_of_lt h, Nat.mod_eq_of_lt h]
  · have hdiv : k / 8 = (k - 8) / 8 + 1 := by omega
    have hmod : k % 8 = (k - 8) % 8 := by omega
    simp [h, hdiv, hmod, getLsbD_leWord bs (k - 8) (by omega : k - 8 < w)]

/-- A 4-byte read is the little-endian value of its bytes (00_scope.md R13). -/
theorem memRead32_eq (s : State) (a : Nat) : memRead32 s a = leWord 32 (ibufBytes s a 4) := by
  have hsplit (b0 b1 b2 b3 : Byte) : leWord 32 [b0, b1, b2, b3] = b3 ++ b2 ++ b1 ++ b0 := by
    rw [leWord_cons_eq_append 24, leWord_cons_eq_append 16, leWord_cons_eq_append 8]
    simp
  exact (hsplit ..).symm

theorem tailAt32_eq (s : State) (a r : Nat) : tailAt32 s a r = tailword32 (ibufBytes s a r) :=
  foldl_orByte 32 _ r

/-- The block loop by index: its word `i` is the four bytes from byte `4i` on. -/
theorem blocks32_eq_foldl (nb : Nat) (bs : List Byte) (h : Word) :
    blocks32 nb bs h =
      (List.range nb).foldl (fun h i => block32 h (leWord 32 ((bs.drop (4 * i)).take 4))) h := by
  induction nb generalizing bs h with
  | zero => rfl
  | succ nb ih =>
    rw [blocks32, ih, List.range_succ_eq_map, List.foldl_cons, List.foldl_map]
    simp [List.drop_drop, Nat.mul_succ, Nat.add_comm]

/-- The loops of 40_murmur32_mixer.md R115 mix the bytes of the range. -/
theorem feedLoop32_eq (s : State) (a n : Nat) : feedLoop32 s a n = absorb32 (ibufBytes s a n) s.ctx32.h := by
  have hwords : (List.range (n / 4)).foldl (fun h i => block32 h (memRead32 s (a + 4 * i))) s.ctx32.h =
      blocks32 (n / 4) (ibufBytes s a n) s.ctx32.h := by
    rw [blocks32_eq_foldl]
    refine List.foldl_ext _ _ _ fun h i hi => ?_
    have hin : 4 * i + 4 ≤ n := by rw [List.mem_range] at hi; omega
    rw [take_drop_ibufBytes s a hin, memRead32_eq]
  have hrest : (ibufBytes s a n).drop (4 * (n / 4)) = ibufBytes s (a + 4 * (n / 4)) (n % 4) := by
    rw [← take_drop_ibufBytes s a (n := n) (by omega), List.take_of_length_le]
    rw [List.length_drop, length_ibufBytes]
    omega
  by_cases hr : n % 4 = 0
  · simp [feedLoop32, absorb32, hwords, hr]
  · simp [feedLoop32, absorb32, tail32, hwords, hr, hrest, tailAt32_eq, Nat.pos_of_ne_zero hr]

theorem exec_feed32_of_ready {s : State} {bs : List Byte} (h : Ready32 s s.flen.toNat) (hin : FeedInRange s)
    (hb : feedBytes s = some bs) :
    exec .feed32 s = .next (succeed32
      (s.ctx32.absorbed (absorb32 bs s.ctx32.h) s.flen.toNat (decide (s.flen.toNat % 4 ≠ 0))) s) := by
  rw [exec, execFeed32, admit32_of_ready h .feed fun _ => hin, hb]
  rfl

/-- Settles O11: the admission checks in order, then the loops over the written range. -/
theorem feed32Result : Obligations.Feed32Result := by
  refine ⟨by decide, fun s => ⟨fun hr hin hw => ?_, fun hf => exec_final32 rfl hf rfl nofun, fun hf hout => ?_,
    fun hf hin hn ht hp => unlessRaised_admission_of_tail hf (fun _ => hin) nofun hn ht hp,
    fun hf hin ht hl => unlessRaised_admission_of_overflow hf (fun _ => hin) nofun ht hl⟩⟩
  · rw [exec_feed32_of_ready hr hin (feedBytes_of_written hw), absorbed32_eq hr.1, feedLoop32_eq]
    simp [succeed32, Nat.pos_iff_ne_zero]
  · rw [exec, execFeed32, admit32, admit_of_range _ _ _ s hf hout]
    rfl

end Sys2Proof.Proofs
end

section
/-! FEED32 and the command sequence it stands for (O45): each BLOCK32 takes the next four bytes, and the contexts after
two inputs in a row compose. -/

namespace Sys2Proof.Proofs

open Sys2Proof.Machine Sys2Proof.Safety

theorem byteOf_leWord (b : List Byte) {i : Nat} (hi : i < 4) : byteOf (leWord 32 b) i = b.getD i 0 := by
  apply BitVec.eq_of_getLsbD_eq
  intro m hm
  rw [getLsbD_byteOf _ _ hm, getLsbD_leWord _ _ (by omega)]
  have hdiv : (8 * i + m) / 8 = i := by omega
  have hmod : (8 * i + m) % 8 = m := by omega
  rw [hdiv, hmod]

theorem kdata_stage (bs : List Byte) (s : State) {q : Nat} (hq : q < 4) :
    kdata (stage bs s) q = leWord 32 ((bs.drop (4 * q)).take 4) := by
  interval_cases q <;> rfl

/-- Staging places byte `j` at `S(j)`. -/
theorem stagingByte_stage (bs : List Byte) (s : State) {j : Nat} (hj : j < 16) :
    stagingByte (stage bs s) j = bs.getD j 0 := by
  have hlt : j % 4 < 4 := Nat.mod_lt j (by decide)
  rw [stagingByte, kdata_stage bs s (by omega), byteOf_leWord _ hlt]
  simp [List.getD_eq_getElem?_getD, hlt, Nat.div_add_mod]

/-- What a TAIL reads of the bytes staged for it. -/
theorem stagingBytes_stage (bs : List Byte) (s : State) (h : bs.length ≤ 16) :
    stagingBytes (stage bs s) bs.length = bs := by
  rw [stagingBytes_eq_map]
  refine (List.map_congr_left fun j hj => ?_).trans (map_getD_range bs)
  exact stagingByte_stage bs s ((List.mem_range.1 hj).trans_le h)

/-- Two inputs in a row, the first without a tail, leave what one input of both lengths leaves. -/
theorem absorbed32_absorbed32 (c : Ctx32) (h h' : Word) (m n : Nat) (mixedTail : Bool) :
    (c.absorbed h m false).absorbed h' n mixedTail = c.absorbed h' (m + n) mixedTail := by
  simp [Ctx32.absorbed, tsAfter, nonstdAfter, BitVec.ofNat_add, BitVec.add_assoc, Bool.and_or_distrib_left,
    Bool.or_assoc]

/-- FEED32 mixes its first word and goes on with the other bytes. -/
theorem absorb32_drop {bs : List Byte} (h4 : 4 ≤ bs.length) (h : Word) :
    absorb32 bs h = absorb32 (bs.drop 4) (block32 h (leWord 32 (bs.take 4))) := by
  have hdiv : bs.length / 4 = (bs.length - 4) / 4 + 1 := by omega
  have hmod : bs.length % 4 = (bs.length - 4) % 4 := by omega
  simp [absorb32, hdiv, hmod, blocks32, Nat.mul_succ, Nat.add_comm 4]

/-- BLOCK32 of four staged bytes mixes their word. -/
theorem exec_block32_stage {s : State} (hr : Ready32 s 4) (bs : List Byte) :
    ∃ u, exec .block32 (stage (bs.take 4) s) = .next u ∧ u.params = s.params ∧
      u.ctx32 = s.ctx32.absorbed (block32 s.ctx32.h (leWord 32 (bs.take 4))) 4 false := by
  refine ⟨_, exec_block32_of_ready (s := stage (bs.take 4) s) hr, rfl, ?_⟩
  simp [stage, List.take_take]

/-- TAIL32 of up to three staged bytes mixes them. -/
theorem exec_tail32_stage {s : State} {bs : List Byte} (hr : Ready32 s bs.length) (h0 : bs.length ≠ 0)
    (h4 : bs.length < 4) :
    ∃ u, exec (.tail32 (BitVec.ofNat 4 bs.length)) (stage bs s) = .next u ∧
      u.ctx32 = s.ctx32.absorbed (tail32 s.ctx32.h bs) bs.length true := by
  have hn : (BitVec.ofNat 4 bs.length).toNat = bs.length := Nat.mod_eq_of_lt (by omega)
  refine ⟨_, exec_tail32_of_ready (s := stage bs s) (by omega) (hn.symm ▸ hr), ?_⟩
  rw [hn, stagingBytes_stage bs s (by omega)]
  rfl

/-- A context that may take `m + n` bytes may take `n` after `m` of them without a tail. -/
theorem ready32_of_absorbed {s u : State} {m n : Nat} {h : Word} (hr : Ready32 s (m + n)) (hm : 0 < m)
    (hp : u.params = s.params) (hc : u.ctx32 = s.ctx32.absorbed h m false) : Ready32 u n := by
  obtain ⟨hf, ht, hl⟩ := hr
  have hlen : (s.ctx32.len + BitVec.ofNat 32 m).toNat + n = s.ctx32.len.toNat + (m + n) := by
    rw [BitVec.toNat_add, BitVec.toNat_ofNat]
    omega
  rw [Ready32, hc, hp]
  refine ⟨hf, fun hts => .inr ((ht ?_).resolve_left (by omega)), hlen.trans_le hl⟩
  simpa [tsAfter] using hts

/-- Where the context may take all the bytes, the sequence of 40_murmur32_mixer.md R116 leaves what FEED32 leaves. -/
theorem blocksThenTail32_of_ready {nb : Nat} {bs : List Byte} {s : State} (hnb : nb = bs.length / 4)
    (hr : Ready32 s bs.length) :
    ∃ u, blocksThenTail32 nb bs s = .next u ∧
      u.ctx32 = s.ctx32.absorbed (absorb32 bs s.ctx32.h) bs.length (decide (bs.length % 4 ≠ 0)) := by
  induction nb generalizing bs s with
  | zero =>
    have hmod : bs.length % 4 = bs.length := by omega
    by_cases h0 : bs.length = 0
    · refine ⟨s, by simp [blocksThenTail32, h0], ?_⟩
      simp [h0, absorb32, blocks32, Ctx32.absorbed, tsAfter, nonstdAfter]
    · obtain ⟨u, hu, huc⟩ := exec_tail32_stage hr h0 (by omega)
      refine ⟨u, (if_neg h0).trans hu, ?_⟩
      simp [huc, absorb32, blocks32, hmod, h0, ← hnb]
  | succ nb ih =>
    obtain ⟨m, hm⟩ : ∃ m, bs.length = 4 + m := ⟨bs.length - 4, by omega⟩
    have hdrop : (bs.drop 4).length = m := by rw [List.length_drop]; omega
    have hmod : (4 + m) % 4 = m % 4 := by omega
    rw [hm] at hr
    have ⟨hf, ht, hl⟩ := hr
    have hr4 : Ready32 s 4 := ⟨hf, fun hts => (ht hts).imp_left (by omega), by omega⟩
    obtain ⟨v, hv, hp, hc⟩ := exec_block32_stage hr4 bs
    have hrv : Ready32 v (bs.drop 4).length := hdrop ▸ ready32_of_absorbed hr (by decide) hp hc
    obtain ⟨u, hu, huc⟩ := ih (by omega) hrv
    refine ⟨u, ?_, ?_⟩
    · rw [blocksThenTail32, hv]
      exact hu
    · rw [huc, hdrop, hc, absorbed32_absorbed32, absorb32_drop (by omega : 4 ≤ bs.length), hm, hmod]
      rfl

/-- A state where eight bytes run past the length limit and four do not. -/
def nearLengthLimit : State :=
  { State.reset with
    ctx32 := { h := 0, len := 0xFFFFFFFB, final := false, ts := false, nonstd := false }
    flen := 8
    ibuf := (List.range 8).map (fun a => (a, 0)) }

/-- Settles O45: a success is the sequence by `blocksThenTail32_of_ready`; a failure only reports; and near the length
limit the sequence mixes one word before it fails. -/
theorem feed32EqualsCommandSequence : Obligations.Feed32EqualsCommandSequence := by
  refine ⟨fun s t bs hb h ok => ?_, fun s t h bad => ?_, nearLengthLimit, _, _, List.replicate 8 0,
    by decide, rfl, by decide, rfl, by decide, by decide⟩
  · rcases execFeed32_next h with ⟨e, _, rfl⟩ | ⟨bs', ha, hb', rfl⟩
    · exact absurd ok e.code_ne_zero
    · obtain ⟨hf, _, hadm⟩ := (admit_none_iff ..).1 ha
      obtain rfl : bs' = bs := Option.some.inj (hb'.symm.trans hb)
      have hlen : bs'.length = s.flen.toNat := readRange_length hb
      rw [← hlen] at hadm ⊢
      exact blocksThenTail32_of_ready rfl ⟨hf, hadm nofun⟩
  · rcases execFeed32_next h with ⟨e, _, rfl⟩ | ⟨_, _, _, rfl⟩
    · rfl
    · exact absurd rfl bad

end Sys2Proof.Proofs
end

section
/-! Little-endian values in two parts: a value of a byte list ends in the value of its first bytes. -/

namespace Sys2Proof.Proofs

open Sys2Proof.Machine

/-- A value of `w` bits reads no byte past its width. -/
theorem leWord_take {w m : Nat} (hw : w ≤ 8 * m) (bs : List Byte) : leWord w (bs.take m) = leWord w bs := by
  apply BitVec.eq_of_getLsbD_eq
  intro k hk
  have hm : k / 8 < m := by omega
  rw [getLsbD_leWord _ _ hk, getLsbD_leWord _ _ hk]
  simp [List.getD_eq_getElem?_getD, hm]

/-- A value split after its first `m` bytes. -/
theorem leWord_add_eq_append (v : Nat) {w m : Nat} (hw : w = 8 * m) (bs : List Byte) :
    leWord (v + w) bs = leWord v (bs.drop m) ++ leWord w bs := by
  apply BitVec.eq_of_getLsbD_eq
  intro k hk
  rw [getLsbD_leWord _ _ hk, BitVec.getLsbD_append]
  by_cases h : k < w
  · rw [if_pos h, getLsbD_leWord _ _ h]
  · have hdiv : k / 8 = m + (k - w) / 8 := by omega
    have hmod : k % 8 = (k - w) % 8 := by omega
    rw [if_neg h, getLsbD_leWord _ _ (by omega), hdiv, hmod]
    simp [List.getD_eq_getElem?_getD]

/-- A 64-bit value from its two 32-bit words (20_memory.md R52). -/
theorem leWord64_eq_append (bs : List Byte) :
    leWord 64 (bs.take 8) = leWord 32 ((bs.drop 4).take 4) ++ leWord 32 (bs.take 4) := by
  rw [leWord_take (by decide), leWord_take (by decide), leWord_take (by decide)]
  exact leWord_add_eq_append 32 (m := 4) rfl bs

/-- The tail words of 41_murmur128_mixer.md R134 are the halves of the tail read as one number. -/
theorem tailwords128_eq_extract (b : List Byte) :
    tailwords128 b = ((leWord 128 b).extractLsb' 0 64, (leWord 128 b).extractLsb' 64 64) := by
  have hsplit : leWord 128 b = leWord 64 (b.drop 8) ++ leWord 64 b :=
    leWord_add_eq_append 64 (m := 8) rfl b
  rw [hsplit, BitVec.extractLsb'_append_eq_right, BitVec.extractLsb'_append_eq_left, tailwords128,
    leWord_take (by decide)]

end Sys2Proof.Proofs
end

section
/-! INIT128, BLOCK128 and TAIL128 in every state (O8, O12, O13), and what a short tail leaves (O44): the context a success
leaves, and the tail words of the staged bytes. -/

namespace Sys2Proof.Proofs

open Sys2Proof.Machine Sys2Proof.Safety

/-- A context that may take `n` bytes admits every input of `n` bytes, a FEED of them if its range is in the buffer. -/
theorem admit128_of_ready {s : State} {n : Nat} (h : Ready128 s n) (op : AdmitOp)
    (hr : op = .feed → FeedInRange s) : admit128 op n s = none := by
  obtain ⟨hf, ht, hl⟩ := h
  exact (admit_none_iff ..).2 ⟨hf, hr, fun _ => ⟨ht, hl⟩⟩

/-- `CTX128` after an accepted input, field by field, the length as a number (41_murmur128_mixer.md R135, R140, R145). -/
theorem absorbed128_eq {c : Ctx128} (hf : c.final = false) (h : DWord × DWord) (n : Nat) (mixedTail : Bool) :
    c.absorbed h n mixedTail =
      { h1 := h.1, h2 := h.2, len := BitVec.ofNat 32 (c.len.toNat + n), final := false, ts := c.ts || mixedTail
        nonstd := c.nonstd || (c.ts && decide (0 < n)) } := by
  simp [Ctx128.absorbed, tsAfter, nonstdAfter, hf, BitVec.ofNat_add]

/-- 41_murmur128_mixer.md R132, with the rotation of a bit vector. -/
theorem mixk1_eq (k : DWord) : mixk1 k = 0x4cf5ad432745937f * (0x87c37b91114253d5 * k).rotateLeft 31 := by
  rw [mixk1, rotl64_eq_rotateLeft _ (by decide)]

/-- 41_murmur128_mixer.md R132, with the rotation of a bit vector. -/
theorem mixk2_eq (k : DWord) : mixk2 k = 0x87c37b91114253d5 * (0x4cf5ad432745937f * k).rotateLeft 33 := by
  rw [mixk2, rotl64_eq_rotateLeft _ (by decide)]

theorem mixk2_zero : mixk2 0 = 0 := by decide

/-- The first accumulator of 41_murmur128_mixer.md R133, from the old `h2`. -/
theorem block128_fst (h : DWord × DWord) (k1 k2 : DWord) :
    (block128 h k1 k2).1 = 0x52dce729 + 5 * ((h.1 ^^^ mixk1 k1).rotateLeft 27 + h.2) := by
  rw [block128, rotl64_eq_rotateLeft _ (by decide)]

/-- The second accumulator of 41_murmur128_mixer.md R133, from the new `h1`. -/
theorem block128_snd (h : DWord × DWord) (k1 k2 : DWord) :
    (block128 h k1 k2).2 = 0x38495ab5 + 5 * ((h.2 ^^^ mixk2 k2).rotateLeft 31 + (block128 h k1 k2).1) := by
  rw [block128, rotl64_eq_rotateLeft _ (by decide), rotl64_eq_rotateLeft _ (by decide)]

/-- The staging area's words stand in it in order. -/
theorem getLsbD_stagingArea (s : State) {k : Nat} (hk : k < 128) :
    (stagingArea s).getLsbD k = (kdata s (k / 32)).getLsbD (k % 32) := by
  have hm : k % 32 < 32 := Nat.mod_lt k (by decide)
  have hq : k / 32 < 4 := by omega
  have hsplit : k = 32 * (k / 32) + k % 32 := (Nat.div_add_mod k 32).symm
  generalize k / 32 = q, k % 32 = m at hm hq hsplit ⊢
  subst hsplit
  change (s.kdata3 ++ s.kdata2 ++ s.kdata1 ++ s.kdata0 : BitVec (32 + 32 + 32 + 32)).getLsbD _ = _
  rw [BitVec.getLsbD_append, BitVec.getLsbD_append, BitVec.getLsbD_append]
  interval_cases q <;> simp (disch := omega) [kdata, hm, if_neg, Nat.sub_sub]

/-- Bit `8j + m` of the staging area is bit `m` of `S(j)` (00_scope.md R14). -/
theorem getLsbD_stagingByte (s : State) {k : Nat} (hk : k < 128) :
    (stagingByte s (k / 8)).getLsbD (k % 8) = (stagingArea s).getLsbD k := by
  have hreg : k / 8 / 4 = k / 32 := by omega
  have hbit : 8 * (k / 8 % 4) + k % 8 = k % 32 := by omega
  rw [stagingByte, getLsbD_byteOf _ _ (Nat.mod_lt k (by decide)), hreg, hbit, getLsbD_stagingArea s hk]

/-- The bytes TAIL128 reads, as one number, are the low bytes of the staging area: the staging bytes from `S(n)` on are
ignored (41_murmur128_mixer.md R140). -/
theorem leWord_stagingBytes (s : State) (n : Nat) :
    leWord 128 (stagingBytes s n) = BitVec.ofNat 128 ((stagingArea s).toNat % 256 ^ n) := by
  have hpow : 256 ^ n = 2 ^ (8 * n) := by rw [Nat.pow_mul]
  apply BitVec.eq_of_getLsbD_eq
  intro k hk
  rw [getLsbD_leWord _ _ hk, stagingBytes_eq_map, hpow, BitVec.getLsbD_ofNat, Nat.testBit_mod_two_pow,
    BitVec.testBit_toNat]
  by_cases h : k < 8 * n
  · have hi : k / 8 < n := by omega
    simp [h, hk, hi, getLsbD_stagingByte s hk]
  · have hi : ¬ k / 8 < n := by omega
    simp [h, hi]

theorem exec_block128_of_ready {s : State} (h : Ready128 s 16) :
    exec .block128 s = .next (succeed128
      (s.ctx128.absorbed (block128 (s.ctx128.h1, s.ctx128.h2) (stagedK1 s) (stagedK2 s)) 16 false) s) := by
  rw [exec, execBlock128, admit128_of_ready h .block nofun]
  rfl

/-- Past its count check TAIL128 answers what its admission check and mix answer. -/
theorem exec_tail128_of_pos {n : BitVec 4} (hn : 1 ≤ n.toNat) (s : State) :
    exec (.tail128 n) s = unlessRaised (admit128 .tail n.toNat s) s
      (.next (succeed128
        (s.ctx128.absorbed (tail128 (s.ctx128.h1, s.ctx128.h2) (stagingBytes s n.toNat)) n.toNat true) s)) := by
  rw [exec, execTail128, tail128CountCheck, if_neg (Nat.ne_of_gt hn)]
  rfl

theorem exec_tail128_of_ready {s : State} {n : BitVec 4} (hn : 1 ≤ n.toNat) (h : Ready128 s n.toNat) :
    exec (.tail128 n) s = .next (succeed128
      (s.ctx128.absorbed (tail128 (s.ctx128.h1, s.ctx128.h2) (stagingBytes s n.toNat)) n.toNat true) s) := by
  rw [exec_tail128_of_pos hn, admit128_of_ready h .tail nofun]
  rfl

/-- Settles O8, by the definition of INIT128. -/
theorem init128Result : Obligations.Init128Result :=
  ⟨by decide, fun s => by rw [BitVec.ofNat_toNat]; rfl⟩

/-- Settles O12: the admission checks in order, then the block step. -/
theorem block128Result : Obligations.Block128Result := by
  refine ⟨by decide, by decide, mixk2_zero, fun s => ⟨fun hr => ?_, fun hf => exec_final128 rfl hf rfl nofun,
    fun hf ht hp => unlessRaised_admission_of_tail hf nofun nofun (by decide) ht hp,
    fun hf ht hl => unlessRaised_admission_of_overflow hf nofun nofun (fun h => .inr (ht h)) hl⟩⟩
  rw [exec_block128_of_ready hr, absorbed128_eq hr.1, block128_snd, block128_fst, mixk1_eq, mixk2_eq, stagedK1,
    stagedK2, joinHalves_eq_append, joinHalves_eq_append]
  simp [succeed128]

/-- Settles O13: the count check, the admission checks in order, then the tail step. -/
theorem tail128Result : Obligations.Tail128Result := by
  refine ⟨by decide, fun s n => ⟨fun h1 hr => ?_, fun hn => ?_, fun h1 hf => ?_, fun h1 hf ht hp => ?_,
    fun h1 hf ht hl => ?_⟩⟩
  · rw [exec_tail128_of_ready h1 hr, absorbed128_eq hr.1, tail128, tailwords128_eq_extract, leWord_stagingBytes,
      mixk1_eq, mixk2_eq]
    simp [succeed128, Nat.lt_of_succ_le h1]
  · rw [exec, execTail128, tail128CountCheck, if_pos hn]
    rfl
  · exact exec_final128 (decide_eq_true ⟨h1, Nat.le_of_lt_succ n.isLt⟩) hf rfl nofun
  · rw [exec_tail128_of_pos h1]
    exact unlessRaised_admission_of_tail hf nofun nofun h1 ht hp
  · rw [exec_tail128_of_pos h1]
    exact unlessRaised_admission_of_overflow hf nofun nofun (fun h => .inr (ht h)) hl

/-- A tail of at most 8 bytes has no byte for `k2`. -/
theorem tailwords128_snd_of_short {bs : List Byte} (h : bs.length ≤ 8) : (tailwords128 bs).2 = 0 := by
  rw [tailwords128, List.drop_of_length_le h]
  rfl

/-- A tail of at most 8 bytes leaves `h2` (41_murmur128_mixer.md R136). -/
theorem tail128_snd_of_short (h : DWord × DWord) {bs : List Byte} (hbs : bs.length ≤ 8) :
    (tail128 h bs).2 = h.2 := by
  simp only [tail128, tailwords128_snd_of_short hbs, mixk2_zero]
  exact BitVec.xor_zero

/-- Settles O44: each line of `tail128` reads its own accumulator only, and a short tail has `k2` = 0. -/
theorem shortTail128KeepsSecondAccumulator : Obligations.ShortTail128KeepsSecondAccumulator := by
  refine ⟨fun _ _ _ _ _ => rfl, fun h bs hbs => ?_, fun s t n hn h => ?_⟩
  · have hk := tailwords128_snd_of_short hbs
    exact ⟨hk, by rw [hk, mixk2_zero], tail128_snd_of_short h hbs⟩
  · rcases execTail128_next h with ⟨e, rfl⟩ | ⟨_, rfl⟩
    · rfl
    · refine tail128_snd_of_short _ ?_
      rwa [stagingBytes_eq_map, List.length_map, List.length_range]

end Sys2Proof.Proofs
end

section
/-! FEED128 in every state (O14): the loops of 41_murmur128_mixer.md R145 over the fed bytes. -/

namespace Sys2Proof.Proofs

open Sys2Proof.Machine Sys2Proof.Safety

/-- A range of bytes without its first `m`. -/
theorem drop_ibufBytes (s : State) (a m n : Nat) : (ibufBytes s a n).drop m = ibufBytes s (a + m) (n - m) := by
  have hlen : ((ibufBytes s a n).drop m).length ≤ n - m := by simp
  rw [← List.take_of_length_le hlen]
  by_cases h : m ≤ n
  · exact take_drop_ibufBytes s a (by omega)
  · rw [Nat.sub_eq_zero_of_le (by omega)]
    rfl

theorem take_ibufBytes (s : State) (a m n : Nat) : (ibufBytes s a n).take m = ibufBytes s a (min n m) := by
  rw [ibufBytes, ← List.map_take, List.take_range, Nat.min_comm]
  rfl

/-- An 8-byte read is the little-endian value of its bytes (00_scope.md R13). -/
theorem memRead64_eq (s : State) (a : Nat) : memRead64 s a = leWord 64 (ibufBytes s a 8) := by
  rw [memRead64, memRead32_eq, memRead32_eq]
  exact (leWord64_eq_append (ibufBytes s a 8)).symm

theorem tailAt64_eq (s : State) (a r : Nat) : tailAt64 s a r = leWord 64 (ibufBytes s a r) :=
  foldl_orByte 64 _ r

/-- The block loop by index: its block `i` is the sixteen bytes from byte `16i` on. -/
theorem blocks128_eq_foldl (nb : Nat) (bs : List Byte) (h : DWord × DWord) :
    blocks128 nb bs h =
      (List.range nb).foldl (fun h i =>
        block128 h (leWord 64 ((bs.drop (16 * i)).take 8)) (leWord 64 ((bs.drop (16 * i + 8)).take 8))) h := by
  induction nb generalizing bs h with
  | zero => rfl
  | succ nb ih =>
    rw [blocks128, ih, List.range_succ_eq_map, List.foldl_cons, List.foldl_map]
    simp [List.drop_drop, Nat.mul_succ, Nat.add_comm, Nat.add_left_comm]

/-- The loops of 41_murmur128_mixer.md R145 mix the bytes of the range. -/
theorem feedLoop128_eq (s : State) (a n : Nat) :
    feedLoop128 s a n = absorb128 (ibufBytes s a n) (s.ctx128.h1, s.ctx128.h2) := by
  have hblocks : (List.range (n / 16)).foldl
      (fun h i => block128 h (memRead64 s (a + 16 * i)) (memRead64 s (a + 16 * i + 8))) (s.ctx128.h1, s.ctx128.h2) =
      blocks128 (n / 16) (ibufBytes s a n) (s.ctx128.h1, s.ctx128.h2) := by
    rw [blocks128_eq_foldl]
    refine List.foldl_ext _ _ _ fun h i hi => ?_
    have hin : 16 * i + 8 + 8 ≤ n := by rw [List.mem_range] at hi; omega
    rw [take_drop_ibufBytes s a hin, take_drop_ibufBytes s a (by omega), memRead64_eq, memRead64_eq, Nat.add_assoc]
  have hrest : (ibufBytes s a n).drop (16 * (n / 16)) = ibufBytes s (a + 16 * (n / 16)) (n % 16) := by
    rw [drop_ibufBytes, Nat.mod_def]
  by_cases hr : n % 16 = 0
  · simp [feedLoop128, absorb128, hblocks, hr]
  · simp [feedLoop128, absorb128, tail128, tailwords128, hblocks, hr, hrest, tailAt64_eq, take_ibufBytes,
      drop_ibufBytes, Nat.pos_of_ne_zero hr]

theorem exec_feed128_of_ready {s : State} {bs : List Byte} (h : Ready128 s s.flen.toNat) (hin : FeedInRange s)
    (hb : feedBytes s = some bs) :
    exec .feed128 s = .next (succeed128
      (s.ctx128.absorbed (absorb128 bs (s.ctx128.h1, s.ctx128.h2)) s.flen.toNat
        (decide (s.flen.toNat % 16 ≠ 0))) s) := by
  rw [exec, execFeed128, admit128_of_ready h .feed fun _ => hin, hb]
  rfl

/-- Settles O14: the admission checks in order, then the loops over the written range. -/
theorem feed128Result : Obligations.Feed128Result := by
  refine ⟨by decide, fun s => ⟨fun hr hin hw => ?_, fun hf => exec_final128 rfl hf rfl nofun, fun hf hout => ?_,
    fun hf hin hn ht hp => unlessRaised_admission_of_tail hf (fun _ => hin) nofun hn ht hp,
    fun hf hin ht hl => unlessRaised_admission_of_overflow hf (fun _ => hin) nofun ht hl⟩⟩
  · rw [exec_feed128_of_ready hr hin (feedBytes_of_written hw), absorbed128_eq hr.1, feedLoop128_eq]
    simp [succeed128, Nat.pos_iff_ne_zero]
  · rw [exec, execFeed128, admit128, admit_of_range _ _ _ s hf hout]
    rfl

end Sys2Proof.Proofs
end

section
/-! FEED128 and the command sequence it stands for (O46): each BLOCK128 takes the next sixteen bytes, and the contexts
after two inputs in a row compose. -/

namespace Sys2Proof.Proofs

open Sys2Proof.Machine Sys2Proof.Safety

/-- Two inputs in a row, the first without a tail, leave what one input of both lengths leaves. -/
theorem absorbed128_absorbed128 (c : Ctx128) (h h' : DWord × DWord) (m n : Nat) (mixedTail : Bool) :
    (c.absorbed h m false).absorbed h' n mixedTail = c.absorbed h' (m + n) mixedTail := by
  simp [Ctx128.absorbed, tsAfter, nonstdAfter, BitVec.ofNat_add, BitVec.add_assoc, Bool.and_or_distrib_left,
    Bool.or_assoc]

/-- FEED128 mixes its first block and goes on with the other bytes. -/
theorem absorb128_drop {bs : List Byte} (h16 : 16 ≤ bs.length) (h : DWord × DWord) :
    absorb128 bs h =
      absorb128 (bs.drop 16) (block128 h (leWord 64 (bs.take 8)) (leWord 64 ((bs.drop 8).take 8))) := by
  have hdiv : bs.length / 16 = (bs.length - 16) / 16 + 1 := by omega
  have hmod : bs.length % 16 = (bs.length - 16) % 16 := by omega
  simp [absorb128, hdiv, hmod, blocks128, Nat.mul_succ, Nat.add_comm 16]

/-- `k1` of a staged block is the value of its first eight bytes. -/
theorem stagedK1_stage (bs : List Byte) (s : State) : stagedK1 (stage bs s) = leWord 64 (bs.take 8) := by
  rw [stagedK1, joinHalves_eq_append, leWord64_eq_append]
  rfl

/-- `k2` of a staged block is the value of its last eight bytes. -/
theorem stagedK2_stage (bs : List Byte) (s : State) : stagedK2 (stage bs s) = leWord 64 ((bs.drop 8).take 8) := by
  rw [stagedK2, joinHalves_eq_append, leWord64_eq_append, List.drop_drop]
  rfl

/-- BLOCK128 of sixteen staged bytes mixes their two values. -/
theorem exec_block128_stage {s : State} (hr : Ready128 s 16) (bs : List Byte) :
    ∃ u, exec .block128 (stage (bs.take 16) s) = .next u ∧ u.params = s.params ∧
      u.ctx128 = s.ctx128.absorbed
        (block128 (s.ctx128.h1, s.ctx128.h2) (leWord 64 (bs.take 8)) (leWord 64 ((bs.drop 8).take 8))) 16 false := by
  refine ⟨_, exec_block128_of_ready (s := stage (bs.take 16) s) hr, rfl, ?_⟩
  rw [stagedK1_stage, stagedK2_stage, List.take_take, List.drop_take, List.take_take]
  rfl

/-- TAIL128 of up to fifteen staged bytes mixes them. -/
theorem exec_tail128_stage {s : State} {bs : List Byte} (hr : Ready128 s bs.length) (h0 : bs.length ≠ 0)
    (h16 : bs.length < 16) :
    ∃ u, exec (.tail128 (BitVec.ofNat 4 bs.length)) (stage bs s) = .next u ∧
      u.ctx128 = s.ctx128.absorbed (tail128 (s.ctx128.h1, s.ctx128.h2) bs) bs.length true := by
  have hn : (BitVec.ofNat 4 bs.length).toNat = bs.length := Nat.mod_eq_of_lt h16
  refine ⟨_, exec_tail128_of_ready (s := stage bs s) (by omega) (hn.symm ▸ hr), ?_⟩
  rw [hn, stagingBytes_stage bs s (by omega)]
  rfl

/-- A context that may take `m + n` bytes may take `n` after `m` of them without a tail. -/
theorem ready128_of_absorbed {s u : State} {m n : Nat} {h : DWord × DWord} (hr : Ready128 s (m + n)) (hm : 0 < m)
    (hp : u.params = s.params) (hc : u.ctx128 = s.ctx128.absorbed h m false) : Ready128 u n := by
  obtain ⟨hf, ht, hl⟩ := hr
  have hlen : (s.ctx128.len + BitVec.ofNat 32 m).toNat + n = s.ctx128.len.toNat + (m + n) := by
    rw [BitVec.toNat_add, BitVec.toNat_ofNat]
    omega
  rw [Ready128, hc, hp]
  refine ⟨hf, fun hts => .inr ((ht ?_).resolve_left (by omega)), hlen.trans_le hl⟩
  simpa [tsAfter] using hts

/-- Where the context may take all the bytes, the sequence of 41_murmur128_mixer.md R146 leaves what FEED128 leaves. -/
theorem blocksThenTail128_of_ready {nb : Nat} {bs : List Byte} {s : State} (hnb : nb = bs.length / 16)
    (hr : Ready128 s bs.length) :
    ∃ u, blocksThenTail128 nb bs s = .next u ∧
      u.ctx128 = s.ctx128.absorbed (absorb128 bs (s.ctx128.h1, s.ctx128.h2)) bs.length
        (decide (bs.length % 16 ≠ 0)) := by
  induction nb generalizing bs s with
  | zero =>
    have hmod : bs.length % 16 = bs.length := by omega
    by_cases h0 : bs.length = 0
    · refine ⟨s, by simp [blocksThenTail128, h0], ?_⟩
      simp [h0, absorb128, blocks128, Ctx128.absorbed, tsAfter, nonstdAfter]
    · obtain ⟨u, hu, huc⟩ := exec_tail128_stage hr h0 (by omega)
      refine ⟨u, (if_neg h0).trans hu, ?_⟩
      simp [huc, absorb128, blocks128, hmod, h0, ← hnb]
  | succ nb ih =>
    obtain ⟨m, hm⟩ : ∃ m, bs.length = 16 + m := ⟨bs.length - 16, by omega⟩
    have hdrop : (bs.drop 16).length = m := by rw [List.length_drop]; omega
    have hmod : (16 + m) % 16 = m % 16 := by omega
    rw [hm] at hr
    have ⟨hf, ht, hl⟩ := hr
    have hr16 : Ready128 s 16 := ⟨hf, fun hts => (ht hts).imp_left (by omega), by omega⟩
    obtain ⟨v, hv, hp, hc⟩ := exec_block128_stage hr16 bs
    have hrv : Ready128 v (bs.drop 16).length := hdrop ▸ ready128_of_absorbed hr (by decide) hp hc
    obtain ⟨u, hu, huc⟩ := ih (by omega) hrv
    refine ⟨u, ?_, ?_⟩
    · rw [blocksThenTail128, hv]
      exact hu
    · rw [huc, hdrop, hc, absorbed128_absorbed128, absorb128_drop (by omega : 16 ≤ bs.length), hm, hmod]
      rfl

/-- A state where 32 bytes run past the length limit of `CTX128` and 16 do not. -/
def nearLengthLimit128 : State :=
  { State.reset with
    ctx128 := { h1 := 0, h2 := 0, len := 0xFFFFFFEF, final := false, ts := false, nonstd := false }
    flen := 32
    ibuf := (List.range 32).map (fun a => (a, 0)) }

/-- Settles O46: a success is the sequence by `blocksThenTail128_of_ready`; a failure only reports; and near the length
limit the sequence mixes one block before it fails. -/
theorem feed128EqualsCommandSequence : Obligations.Feed128EqualsCommandSequence := by
  refine ⟨fun s t bs hb h ok => ?_, fun s t h bad => ?_, nearLengthLimit128, _, _, List.replicate 32 0,
    by decide, rfl, by decide, rfl, by decide, by decide⟩
  · rcases execFeed128_next h with ⟨e, _, rfl⟩ | ⟨bs', ha, hb', rfl⟩
    · exact absurd ok e.code_ne_zero
    · obtain ⟨hf, _, hadm⟩ := (admit_none_iff ..).1 ha
      obtain rfl : bs' = bs := Option.some.inj (hb'.symm.trans hb)
      have hlen : bs'.length = s.flen.toNat := readRange_length hb
      rw [← hlen] at hadm ⊢
      exact blocksThenTail128_of_ready rfl ⟨hf, hadm nofun⟩
  · rcases execFeed128_next h with ⟨e, _, rfl⟩ | ⟨_, _, _, rfl⟩
    · rfl
    · exact absurd rfl bad

end Sys2Proof.Proofs
end

section
/-! The avalanche functions (O42): a xor with a right shift and a product with an odd constant are injective at every
width, so bijective, and both `fmix` functions are chains of these steps. -/

namespace Sys2Proof.Proofs

open Sys2Proof.Machine

/-- Only 0 is its own right shift by at least 1: a shift makes any other value smaller. -/
theorem eq_zero_of_eq_ushiftRight {w r : Nat} (hr : 1 ≤ r) {d : BitVec w} (h : d = d >>> r) : d = 0 := by
  have hdiv : d.toNat = d.toNat / 2 ^ r := by
    rw [← Nat.shiftRight_eq_div_pow, ← BitVec.toNat_ushiftRight, ← h]
  by_contra hne
  have hpos : 0 < d.toNat := Nat.pos_of_ne_zero fun h0 => hne (BitVec.toNat_inj.1 (h0.trans BitVec.toNat_zero.symm))
  exact (Nat.div_lt_self hpos (Nat.one_lt_two_pow (Nat.ne_of_gt hr))).ne hdiv.symm

/-- The step is linear over xor, so two values with one image differ by a value that is its own right shift. -/
theorem xor_ushiftRight_bijective (w : Nat) {r : Nat} (hr : 1 ≤ r) :
    Function.Bijective (fun k : BitVec w => k ^^^ (k >>> r)) := by
  refine Finite.injective_iff_bijective.1 fun x y h => ?_
  have hlinear : (x ^^^ y) ^^^ ((x ^^^ y) >>> r) = (x ^^^ (x >>> r)) ^^^ (y ^^^ (y >>> r)) := by
    rw [BitVec.ushiftRight_xor_distrib]
    ac_rfl
  rw [show x ^^^ (x >>> r) = y ^^^ (y >>> r) from h, BitVec.xor_self, BitVec.xor_eq_zero_iff] at hlinear
  exact BitVec.xor_eq_zero_iff.1 (eq_zero_of_eq_ushiftRight hr hlinear)

/-- An odd constant is coprime to the modulus, and so cancels. -/
theorem odd_mul_bijective {w : Nat} {c : BitVec w} (hc : c.toNat % 2 = 1) :
    Function.Bijective (fun k : BitVec w => c * k) := by
  refine Finite.injective_iff_bijective.1 fun x y h => BitVec.eq_of_toNat_eq ?_
  have hcop : (2 ^ w).gcd c.toNat = 1 :=
    (Nat.coprime_two_left.2 (Nat.odd_iff.2 hc)).pow_left w
  have hmod : c.toNat * x.toNat ≡ c.toNat * y.toNat [MOD 2 ^ w] := by
    simpa [← BitVec.toNat_inj, Nat.ModEq] using h
  exact (hmod.cancel_left_of_coprime hcop).eq_of_lt_of_lt x.isLt y.isLt

/-- Three xor steps with two odd products between them: the shape of both avalanche functions (42_murmur_finalizer.md
R161, R162). -/
theorem avalanche_bijective {w a b c : Nat} {m n : BitVec w} (ha : 1 ≤ a) (hb : 1 ≤ b) (hc : 1 ≤ c)
    (hm : m.toNat % 2 = 1) (hn : n.toNat % 2 = 1) :
    Function.Bijective fun k : BitVec w =>
      let k := m * (k ^^^ (k >>> a))
      let k := n * (k ^^^ (k >>> b))
      k ^^^ (k >>> c) :=
  (xor_ushiftRight_bijective w hc).comp <| (odd_mul_bijective hn).comp <| (xor_ushiftRight_bijective w hb).comp <|
    (odd_mul_bijective hm).comp (xor_ushiftRight_bijective w ha)

theorem fmix32_bijective : Function.Bijective fmix32 :=
  avalanche_bijective (a := 16) (b := 13) (c := 16) (m := 0x85ebca6b) (n := 0xc2b2ae35)
    (by decide) (by decide) (by decide) (by decide) (by decide)

theorem fmix64_bijective : Function.Bijective fmix64 :=
  avalanche_bijective (a := 33) (b := 33) (c := 33) (m := 0xff51afd7ed558ccd) (n := 0xc4ceb9fe1a85ec53)
    (by decide) (by decide) (by decide) (by decide) (by decide)

theorem fmix32_zero : fmix32 0#32 = 0#32 := by decide

theorem fmix64_zero : fmix64 0#64 = 0#64 := by decide

/-- Settles O42: both kinds of step are bijective at every width, and so are the chains of them. -/
theorem fmixAreBijections : Obligations.FmixAreBijections :=
  ⟨fmix32_zero, fmix64_zero, fmix32_bijective, fmix64_bijective,
    fun _ hr => ⟨xor_ushiftRight_bijective 32 hr, xor_ushiftRight_bijective 64 hr⟩,
    fun _ => odd_mul_bijective, fun _ => odd_mul_bijective⟩

end Sys2Proof.Proofs
end

section
/-! FIN32, FIN128, FMIX32 and FMIX64 in every state (O15, O16, O17, O18), and the digest of an empty message (O43). -/

namespace Sys2Proof.Proofs

open Sys2Proof.Machine Sys2Proof.Safety

/-- FIN32 is admitted in phase ABSORB (42_murmur_finalizer.md R165). -/
theorem exec_fin32_eq_finish32 {s : State} (hf : s.ctx32.final = false) :
    exec .fin32 s = .next
      (finish32 { s.ctx32 with h := fmix32 (s.ctx32.h ^^^ s.ctx32.len), final := true }
        (fmix32 (s.ctx32.h ^^^ s.ctx32.len)) s) := by
  have ha : admit32 .fin 0 s = none := (admit_none_iff ..).2 ⟨hf, nofun, fun h => absurd rfl h⟩
  rw [exec, execFin32, ha]
  rfl

/-- FIN128 is admitted in phase ABSORB (42_murmur_finalizer.md R167). -/
theorem exec_fin128_eq_finish128 {s : State} (hf : s.ctx128.final = false) :
    exec .fin128 s = .next
      (finish128
        { s.ctx128 with
          h1 := (fin128 s.ctx128.h1 s.ctx128.h2 s.ctx128.len).1
          h2 := (fin128 s.ctx128.h1 s.ctx128.h2 s.ctx128.len).2
          final := true }
        (fin128 s.ctx128.h1 s.ctx128.h2 s.ctx128.len).1 (fin128 s.ctx128.h1 s.ctx128.h2 s.ctx128.len).2 s) := by
  have ha : admit128 .fin 0 s = none := (admit_none_iff ..).2 ⟨hf, nofun, fun h => absurd rfl h⟩
  rw [exec, execFin128, ha]
  rfl

/-- Settles O15: FIN32 admitted, and rejected in phase FINAL. -/
theorem fin32Result : Obligations.Fin32Result :=
  ⟨by decide, fun _ => ⟨exec_fin32_eq_finish32, fun hf => exec_final32 rfl hf rfl nofun⟩⟩

/-- Settles O16: FIN128 admitted, its digest words as numbers, and rejected in phase FINAL. -/
theorem fin128Result : Obligations.Fin128Result := by
  refine ⟨by decide, fun s => ⟨fun hf => ?_, fun hf => exec_final128 rfl hf rfl nofun⟩⟩
  rw [exec_fin128_eq_finish128 hf, BitVec.ofNat_toNat, finish128, lowHalf_eq, highHalf_eq, lowHalf_eq, highHalf_eq]
  rfl

/-- Settles O17, by the definition of FMIX32. -/
theorem fmix32Result : Obligations.Fmix32Result :=
  ⟨by decide, fun _ => rfl⟩

/-- Settles O18: the operand and the two halves of the result as they stand in the staging words. -/
theorem fmix64Result : Obligations.Fmix64Result := by
  refine ⟨by decide, fun s => ?_⟩
  rw [exec, execFmix64, stagedK1, joinHalves_eq_append, succeedKdata, lowHalf_eq, highHalf_eq]
  rfl

theorem seed32_of_seed_zero {s : State} (h : s.seed = 0) : seed32 s = 0 := by
  simp [seed32, h]

/-- The accumulators of an empty message with seed 0 finish as 0 (42_murmur_finalizer.md R178). -/
theorem fin128_zero : fin128 0#64 0#64 0#32 = (0#64, 0#64) := by decide

/-- Settles O43: INIT leaves an ABSORB context of zeros, which FIN mixes to zeros. -/
theorem emptyInputDigestIsZero : Obligations.EmptyInputDigestIsZero := by
  intro s hs
  refine ⟨⟨_, _, rfl, exec_fin32_eq_finish32 rfl, rfl, ?_⟩, ⟨_, _, rfl, exec_fin128_eq_finish128 rfl, rfl, ?_⟩⟩
  · simp [seed32_of_seed_zero hs, fmix32_zero]
  · simp [hs, fin128_zero, lowHalf, highHalf]

end Sys2Proof.Proofs
end

section
/-! Finalize is single-use (O51): what a step leaves of a FINAL context and of the digest registers. -/

namespace Sys2Proof.Proofs

open Sys2Proof.Machine Sys2Proof.Safety

/-- A command that a word decodes to is one of the map. -/
theorem wellFormed_of_decode {w : Word} {i : Instr} (h : decode w = .command i) : i.wellFormed = true := by
  obtain ⟨rejects, accepts⟩ := decode_rejectsExactly w
  by_cases hbad : IllegalFields w
  · obtain ⟨r, hr⟩ := rejects hbad
    cases h.symm.trans hr
  · obtain ⟨j, hj, hwf⟩ := accepts hbad
    cases h.symm.trans hj
    exact hwf

/-- The four digest words of the 128-bit width are unchanged (10_state.md R34). -/
def DigestKept128 (s t : State) : Prop :=
  t.dig128_0 = s.dig128_0 ∧ t.dig128_1 = s.dig128_1 ∧ t.dig128_2 = s.dig128_2 ∧ t.dig128_3 = s.dig128_3

/-- Both contexts and all digest registers are unchanged. -/
structure HashStateKept (s t : State) : Prop where
  ctx32 : t.ctx32 = s.ctx32
  dig32 : t.dig32 = s.dig32
  ctx128 : t.ctx128 = s.ctx128
  dig128 : DigestKept128 s t

/-- What a step can do to the contexts and the digests: a reset, nothing, or the command of the map that the port's next
event issues. -/
theorem step_hashState {s t : State} (h : step s = .next t) :
    HeadIs s .reset ∨ HashStateKept s t ∨
    ∃ i rest u, HeadCommand s i ∧ i.wellFormed = true ∧ exec i (s.setPending rest) = .next u ∧
      t = u.setReply .written := by
  have kept : DigestKept128 s s := ⟨rfl, rfl, rfl, rfl⟩
  rcases step_cases h with ht | ⟨rest, hp, _⟩ | ⟨w, rest, u, hp, hu, rfl⟩
  · rw [ht]
    exact .inr (.inl ⟨rfl, rfl, rfl, kept⟩)
  · exact .inl ⟨rest, hp⟩
  · rcases issueCommand_next hu with rfl | ⟨i, hd, hx⟩
    · exact .inr (.inl ⟨rfl, rfl, rfl, kept⟩)
    · exact .inr (.inr ⟨i, rest, u, ⟨w, rest, hp, hd⟩, wellFormed_of_decode hd, hx, rfl⟩)

/-- A command not of the 32-bit width leaves `DIG32`. -/
theorem exec_keeps_dig32 {i : Instr} {s t : State} (hi : uses32 i = false) (h : exec i s = .next t) :
    t.dig32 = s.dig32 := by
  have hx := exec_with32 hi s s.ctx32 s.dig32
  rw [show with32 s s.ctx32 s.dig32 = s from rfl, h] at hx
  have ht : t = with32 t s.ctx32 s.dig32 := Host.Outcome.next.inj hx
  rw [ht]
  rfl

/-- A command not of the 128-bit width leaves its digest words. -/
theorem exec_keeps_dig128 {i : Instr} {s t : State} (hi : uses128 i = false) (h : exec i s = .next t) :
    DigestKept128 s t := by
  have hx := exec_with128 hi s s.ctx128 s.dig128_0 s.dig128_1 s.dig128_2 s.dig128_3
  rw [show with128 s s.ctx128 s.dig128_0 s.dig128_1 s.dig128_2 s.dig128_3 = s from rfl, h] at hx
  have ht := Host.Outcome.next.inj hx
  rw [ht]
  exact ⟨rfl, rfl, rfl, rfl⟩

/-- A command on a FINAL `CTX32` leaves `DIG32`, and but for INIT32 the context. -/
theorem exec_keeps_final32 {i : Instr} {s t : State} (hw : i.wellFormed = true) (hf : s.ctx32.final = true)
    (h : exec i s = .next t) : t.dig32 = s.dig32 ∧ (t.ctx32 = s.ctx32 ∨ i = .init32) := by
  cases hi : uses32 i with
  | false => exact ⟨exec_keeps_dig32 hi h, .inl (exec_keeps_ctx32 hi h)⟩
  | true =>
    by_cases hinit : i = .init32
    · subst hinit
      cases h
      exact ⟨rfl, .inr rfl⟩
    · cases (exec_final32 hw hf hi hinit).symm.trans h
      exact ⟨rfl, .inl rfl⟩

/-- A command on a FINAL `CTX128` leaves its digest words, and but for INIT128 the context. -/
theorem exec_keeps_final128 {i : Instr} {s t : State} (hw : i.wellFormed = true) (hf : s.ctx128.final = true)
    (h : exec i s = .next t) : DigestKept128 s t ∧ (t.ctx128 = s.ctx128 ∨ i = .init128) := by
  cases hi : uses128 i with
  | false => exact ⟨exec_keeps_dig128 hi h, .inl (exec_keeps_ctx128 hi h)⟩
  | true =>
    by_cases hinit : i = .init128
    · subst hinit
      cases h
      exact ⟨⟨rfl, rfl, rfl, rfl⟩, .inr rfl⟩
    · cases (exec_final128 hw hf hi hinit).symm.trans h
      exact ⟨⟨rfl, rfl, rfl, rfl⟩, .inl rfl⟩

/-- A step from a FINAL `CTX32` is a reset, or leaves `DIG32` and but for INIT32 the context. -/
theorem step_keeps_final32 {s t : State} (h : step s = .next t) (hf : s.ctx32.final = true) :
    HeadIs s .reset ∨ (t.dig32 = s.dig32 ∧ (t.ctx32 = s.ctx32 ∨ HeadCommand s .init32)) := by
  rcases step_hashState h with hr | kept | ⟨i, rest, u, hi, hw, hx, rfl⟩
  · exact .inl hr
  · exact .inr ⟨kept.dig32, .inl kept.ctx32⟩
  · obtain ⟨hdig, hctx | rfl⟩ := exec_keeps_final32 (s := s.setPending rest) hw hf hx
    · exact .inr ⟨hdig, .inl hctx⟩
    · exact .inr ⟨hdig, .inr hi⟩

/-- A step from a FINAL `CTX128` is a reset, or leaves its digest words and but for INIT128 the context. -/
theorem step_keeps_final128 {s t : State} (h : step s = .next t) (hf : s.ctx128.final = true) :
    HeadIs s .reset ∨ (DigestKept128 s t ∧ (t.ctx128 = s.ctx128 ∨ HeadCommand s .init128)) := by
  rcases step_hashState h with hr | kept | ⟨i, rest, u, hi, hw, hx, rfl⟩
  · exact .inl hr
  · exact .inr ⟨kept.dig128, .inl kept.ctx128⟩
  · obtain ⟨hdig, hctx | rfl⟩ := exec_keeps_final128 (s := s.setPending rest) hw hf hx
    · exact .inr ⟨hdig, .inl hctx⟩
    · exact .inr ⟨hdig, .inr hi⟩

/-- A successful FIN32 leaves `CTX32` FINAL with its digest in `DIG32`. -/
theorem exec_fin32_success {s t : State} (h : exec .fin32 s = .next t) (ok : t.lastErr = 0) :
    t.ctx32.final = true ∧ t.dig32 = t.ctx32.h := by
  rcases execFin32_next h with ⟨e, _, rfl⟩ | ⟨_, rfl⟩
  · exact absurd ok e.code_ne_zero
  · exact ⟨rfl, rfl⟩

/-- A successful FIN128 leaves `CTX128` FINAL with its digest in the digest words. -/
theorem exec_fin128_success {s t : State} (h : exec .fin128 s = .next t) (ok : t.lastErr = 0) :
    t.ctx128.final = true ∧ t.dig128_1 ++ t.dig128_0 = t.ctx128.h1 ∧ t.dig128_3 ++ t.dig128_2 = t.ctx128.h2 := by
  rcases execFin128_next h with ⟨e, _, rfl⟩ | ⟨_, rfl⟩
  · exact absurd ok e.code_ne_zero
  · exact ⟨rfl, highHalf_append_lowHalf _, highHalf_append_lowHalf _⟩

/-- Settles O51: a successful FIN, the rejections in phase FINAL, and what a step from it leaves, width by width. -/
theorem finalizeIsSingleUse : Obligations.FinalizeIsSingleUse :=
  ⟨fun _ _ => ⟨exec_fin32_success, exec_fin128_success⟩,
    fun _ _ hw => ⟨exec_final32 hw, exec_final128 hw⟩,
    fun _ _ h => ⟨step_keeps_final32 h, step_keeps_final128 h⟩⟩

end Sys2Proof.Proofs
end

section
/-! The admission checks over all commands (O19): what an input command does is one admission check and what follows it. -/

namespace Sys2Proof.Proofs

open Sys2Proof.Machine Sys2Proof.Safety

/-- FIN32 and the input commands are of the 32-bit width, and none of them is INIT32. -/
theorem uses32_of_fin_or_input {i : Instr} {s : State} (h : i = .fin32 ∨ (inputBytes32 s i).isSome = true) :
    uses32 i = true ∧ i ≠ .init32 := by
  cases i with
  | block32 | tail32 _ | feed32 | fin32 => exact ⟨rfl, nofun⟩
  | init32 | init128 | block128 | tail128 _ | feed128 | fin128 | fmix32 | fmix64 => simp [inputBytes32] at h

/-- FIN128 and the input commands are of the 128-bit width, and none of them is INIT128. -/
theorem uses128_of_fin_or_input {i : Instr} {s : State} (h : i = .fin128 ∨ (inputBytes128 s i).isSome = true) :
    uses128 i = true ∧ i ≠ .init128 := by
  cases i with
  | block128 | tail128 _ | feed128 | fin128 => exact ⟨rfl, nofun⟩
  | init32 | block32 | tail32 _ | feed32 | init128 | fin32 | fmix32 | fmix64 => simp [inputBytes128] at h

/-- An input command of the 32-bit width is its admission check and then its mix. -/
theorem exec_input32_eq_unlessRaised {i : Instr} {s : State} {n : Nat} (hw : i.wellFormed = true)
    (hn : inputBytes32 s i = some n) :
    ∃ op k, op ≠ .fin ∧ (op = .feed → i = .feed32) ∧ exec i s = unlessRaised (admit32 op n s) s k := by
  cases i with
  | block32 => cases hn; exact ⟨.block, _, nofun, nofun, rfl⟩
  | tail32 n => cases hn; exact ⟨.tail, _, nofun, nofun, exec_tail32_of_count (of_decide_eq_true hw) s⟩
  | feed32 => cases hn; exact ⟨.feed, _, nofun, fun _ => rfl, rfl⟩
  | init32 | init128 | block128 | tail128 _ | feed128 | fin32 | fin128 | fmix32 | fmix64 => cases hn

/-- An input command of the 128-bit width is its admission check and then its mix. -/
theorem exec_input128_eq_unlessRaised {i : Instr} {s : State} {n : Nat} (hw : i.wellFormed = true)
    (hn : inputBytes128 s i = some n) :
    ∃ op k, op ≠ .fin ∧ (op = .feed → i = .feed128) ∧ exec i s = unlessRaised (admit128 op n s) s k := by
  cases i with
  | block128 => cases hn; exact ⟨.block, _, nofun, nofun, rfl⟩
  | tail128 n =>
    cases hn
    have ⟨hpos, _⟩ : Instr.Tail128CountOk n := of_decide_eq_true hw
    exact ⟨.tail, _, nofun, nofun, exec_tail128_of_pos hpos s⟩
  | feed128 => cases hn; exact ⟨.feed, _, nofun, fun _ => rfl, rfl⟩
  | init32 | block32 | tail32 _ | feed32 | init128 | fin32 | fin128 | fmix32 | fmix64 => cases hn

/-- A FEED32 of a range past the buffer is reported (60_exceptions.md R203). -/
theorem exec_feed32_of_range {s : State} (hf : s.ctx32.final = false)
    (hr : s.params.ibufSize < s.foff.toNat + s.flen.toNat) : exec .feed32 s = .next (failWith 1 s) := by
  rw [exec, execFeed32, admit32, admit_of_range _ _ _ s hf hr]
  rfl

/-- A FEED128 of a range past the buffer is reported (60_exceptions.md R203). -/
theorem exec_feed128_of_range {s : State} (hf : s.ctx128.final = false)
    (hr : s.params.ibufSize < s.foff.toNat + s.flen.toNat) : exec .feed128 s = .next (failWith 1 s) := by
  rw [exec, execFeed128, admit128, admit_of_range _ _ _ s hf hr]
  rfl

/-- Settles O19: the decoder's error, then the checks one by one, and the commands that have none. -/
theorem admissionChecksInOrder : Obligations.AdmissionChecksInOrder := by
  refine ⟨fun s w r hd => issueCommand_of_illegal hd s, fun s i hw => ⟨fun hf hi => ?_, fun hf hi => ?_,
    fun hi hr => ?_, fun n hn hf hin => ?_, fun n hn hf hin => ?_, fun hi => ?_⟩⟩
  · obtain ⟨huses, hne⟩ := uses32_of_fin_or_input hi
    exact exec_final32 hw hf huses hne
  · obtain ⟨huses, hne⟩ := uses128_of_fin_or_input hi
    exact exec_final128 hw hf huses hne
  · rcases hi with ⟨rfl, hf⟩ | ⟨rfl, hf⟩
    · exact exec_feed32_of_range hf hr
    · exact exec_feed128_of_range hf hr
  · obtain ⟨op, k, hop, hfeed, hx⟩ := exec_input32_eq_unlessRaised hw hn
    rw [hx]
    exact ⟨unlessRaised_admission_of_tail hf (hin ∘ hfeed) hop,
      unlessRaised_admission_of_overflow hf (hin ∘ hfeed) hop⟩
  · obtain ⟨op, k, hop, hfeed, hx⟩ := exec_input128_eq_unlessRaised hw hn
    rw [hx]
    exact ⟨unlessRaised_admission_of_tail hf (hin ∘ hfeed) hop,
      unlessRaised_admission_of_overflow hf (hin ∘ hfeed) hop⟩
  · rcases hi with rfl | rfl | rfl | rfl <;> exact ⟨_, rfl, rfl⟩

end Sys2Proof.Proofs
end

section
/-! Success and failure (O6, O20, O21): a command succeeds or only reports, and the report of a failure is overwritten by the
next command. -/

namespace Sys2Proof.Proofs

open Sys2Proof.Machine Sys2Proof.Safety

/-- The state says that a command succeeded: `LAST_ERR` is 0 and `ERR_SEEN` is as it was (60_exceptions.md R205). -/
def Succeeded (s t : State) : Prop := t.lastErr = 0 ∧ t.errSeen = s.errSeen

theorem one_le_errorCode (e : CmdError) : 1 ≤ e.code.toNat := by cases e <;> decide

/-- A command that goes on succeeded, or did nothing but report an error (60_exceptions.md R205). -/
theorem exec_succeeds_or_raises {i : Instr} {s t : State} (h : exec i s = .next t) :
    Succeeded s t ∨ ∃ e, t = raise e s := by
  cases i with
  | init32 | block32 | tail32 _ | feed32 | fin32 =>
    rcases exec_uses32_next rfl h with ⟨_, a, rfl⟩ | ⟨e, rfl, _⟩ | ⟨a, n, m, _, _, _, rfl⟩ | ⟨_, a, rfl⟩
    · exact .inl ⟨rfl, rfl⟩
    · exact .inr ⟨e, rfl⟩
    · exact .inl ⟨rfl, rfl⟩
    · exact .inl ⟨rfl, rfl⟩
  | init128 | block128 | tail128 _ | feed128 | fin128 =>
    rcases exec_uses128_next rfl h with ⟨_, a, b, rfl⟩ | ⟨e, rfl, _⟩ | ⟨a, n, m, _, _, _, rfl⟩ | ⟨_, a, b, rfl⟩
    · exact .inl ⟨rfl, rfl⟩
    · exact .inr ⟨e, rfl⟩
    · exact .inl ⟨rfl, rfl⟩
    · exact .inl ⟨rfl, rfl⟩
  | fmix32 | fmix64 =>
    cases h
    exact .inl ⟨rfl, rfl⟩

/-- An issued word succeeded, or did nothing but report an error. -/
theorem issueCommand_succeeds_or_raises {w : Word} {s t : State} (h : issueCommand w s = .next t) :
    Succeeded s t ∨ ∃ e, t = raise e s := by
  rcases issueCommand_next h with rfl | ⟨i, _, hx⟩
  · exact .inr ⟨_, rfl⟩
  · exact exec_succeeds_or_raises hx

/-- A step clears `ERR_SEEN` only by a reset (10_state.md R36). -/
theorem step_keeps_errSeen {s t : State} (h : step s = .next t) (hs : s.errSeen = true) :
    t.errSeen = true ∨ HeadIs s .reset := by
  rcases step_cases h with ht | ⟨rest, hp, _⟩ | ⟨w, rest, u, _, hu, rfl⟩
  · rw [ht]
    exact .inl hs
  · exact .inr ⟨rest, hp⟩
  · rcases issueCommand_succeeds_or_raises hu with ⟨_, hkept⟩ | ⟨e, rfl⟩
    · exact .inl (hkept.trans hs)
    · exact .inl rfl

/-- Settles O20: the two outcomes of a command, a report with its code, and what a step leaves of `ERR_SEEN`. -/
theorem commandSucceedsOrOnlyReports : Obligations.CommandSucceedsOrOnlyReports := by
  refine ⟨fun i s t h => ?_, fun _ _ => step_keeps_errSeen⟩
  rcases exec_succeeds_or_raises h with hok | ⟨e, rfl⟩
  · exact .inl hok
  · exact .inr ⟨e.code, one_le_errorCode e, e.code_le, rfl⟩

/-- `ERR_SEEN` set, nothing else changed. -/
def markErrSeen (s : State) : State := { s with errSeen := true }

/-- Two states whose reports of an error differ by `f` go through a check alike. -/
theorem unlessRaised_mapNext_of_raise {f : State → State} {s s' : State} (hf : ∀ e, raise e s' = f (raise e s))
    {c : Option CmdError} {k k' : Host.Outcome State Fault Refusal} (hk : k' = mapNext f k) :
    unlessRaised c s' k' = mapNext f (unlessRaised c s k) := by
  cases c with
  | none => exact hk
  | some e => exact congrArg Host.Outcome.next (hf e)

theorem stagingBytes_raise (e : CmdError) (s : State) (n : Nat) : stagingBytes (raise e s) n = stagingBytes s n :=
  stagingBytes_congr (by unfold kdata; rfl) n

/-- No command reads the error fields, and every one overwrites `LAST_ERR`: after a failure it does what it would have
done without it, but that `ERR_SEEN` is 1 (60_exceptions.md R209). -/
theorem exec_raise (i : Instr) (e : CmdError) (s : State) :
    exec i (raise e s) = mapNext markErrSeen (exec i s) := by
  have through := @unlessRaised_mapNext_of_raise markErrSeen s (raise e s) (fun _ => rfl)
  cases i with
  | init32 | init128 | fmix32 | fmix64 => rfl
  | block32 | block128 | fin32 | fin128 => exact through rfl
  | tail32 n | tail128 n => exact through (through (by rw [stagingBytes_raise]; rfl))
  | feed32 | feed128 =>
    have hb : feedBytes (raise e s) = feedBytes s := rfl
    refine through ?_
    rw [hb]
    cases feedBytes s <;> rfl

theorem issueCommand_raise (w : Word) (e : CmdError) (s : State) :
    issueCommand w (raise e s) = mapNext markErrSeen (issueCommand w s) := by
  cases hd : decode w with
  | illegal r =>
    rw [issueCommand_of_illegal hd, issueCommand_of_illegal hd]
    rfl
  | command i => rw [issueCommand_of_command hd, issueCommand_of_command hd, exec_raise]

/-- Settles O21: the failed command only reported, and the next one reads nothing of its report. -/
theorem failedCommandLeavesNoTrace : Obligations.FailedCommandLeavesNoTrace := by
  intro w w' s t h hfail
  rcases issueCommand_succeeds_or_raises h with ⟨hok, _⟩ | ⟨e, rfl⟩
  · exact absurd hok hfail
  · exact issueCommand_raise w' e s

/-- Settles O6: the write to `CMD` is served by issuing the word, which the decoder rejects. -/
theorem illegalCommandIsReported : Obligations.IllegalCommandIsReported := by
  intro s w r rest hd hp
  rw [step_registerWrite (r := .cmd) hp, writeReg, issueCommand_of_illegal hd]
  rfl

end Sys2Proof.Proofs
end

section
/-! The model fault (O22): an admitted FEED faults exactly on a range not wholly written. -/

namespace Sys2Proof.Proofs

open Sys2Proof.Machine Sys2Proof.Safety

/-- A FEED finds no bytes where one of its range has not been written (20_memory.md R55). -/
theorem feedBytes_of_not_written {s : State} (h : ¬ FeedWritten s) : feedBytes s = none := by
  rw [← Option.not_isSome_iff_eq_none]
  exact fun hb => h ((readRange_isSome_iff ..).1 hb)

theorem exec_feed32_fault_iff {s : State} (hr : Ready32 s s.flen.toNat) (hin : FeedInRange s) :
    exec .feed32 s = .fault .uninitialisedIbuf ↔ ¬ FeedWritten s := by
  refine ⟨fun h hw => ?_, fun hw => ?_⟩
  · cases (exec_feed32_of_ready hr hin (feedBytes_of_written hw)).symm.trans h
  · rw [exec, execFeed32, admit32_of_ready hr .feed fun _ => hin, feedBytes_of_not_written hw]
    rfl

theorem exec_feed128_fault_iff {s : State} (hr : Ready128 s s.flen.toNat) (hin : FeedInRange s) :
    exec .feed128 s = .fault .uninitialisedIbuf ↔ ¬ FeedWritten s := by
  refine ⟨fun h hw => ?_, fun hw => ?_⟩
  · cases (exec_feed128_of_ready hr hin (feedBytes_of_written hw)).symm.trans h
  · rw [exec, execFeed128, admit128_of_ready hr .feed fun _ => hin, feedBytes_of_not_written hw]
    rfl

/-- Settles O22, width by width. -/
theorem unwrittenFeedFaults : Obligations.UnwrittenFeedFaults :=
  fun _ hin => ⟨fun hr => exec_feed32_fault_iff hr hin, fun hr => exec_feed128_fault_iff hr hin⟩

end Sys2Proof.Proofs
end

section
/-! The round trip of the encoding (O2, O3): a word with no reserved bit is packed from its own fields, so a
decoded word is the one its command packs. -/

namespace Sys2Proof.Proofs

/-- The reserved bits of a word whose reserved fields are 0 (30_encoding.md R71). -/
theorem getLsbD_of_reserved {w : Word} (h0 : rz0Field w = 0) (h1 : rz1Field w = 0) {k : Nat} (hk : k < 32)
    (hres : (5 ≤ k ∧ k < 8) ∨ 12 ≤ k) : w.getLsbD k = false := by
  rcases hres with ⟨hlo, hhi⟩ | hlo
  · have hbit : (rz0Field w).getLsbD (k - 5) = w.getLsbD k := by
      rw [rz0Field, BitVec.getLsbD_extractLsb', Nat.add_sub_cancel' hlo]
      simp [show k - 5 < 3 by omega]
    exact hbit ▸ h0 ▸ BitVec.getLsbD_zero
  · have hbit : (rz1Field w).getLsbD (k - 12) = w.getLsbD k := by
      rw [rz1Field, BitVec.getLsbD_extractLsb', Nat.add_sub_cancel' hlo]
      simp [show k - 12 < 20 by omega]
    exact hbit ▸ h1 ▸ BitVec.getLsbD_zero

/-- A word whose reserved fields are 0 is the packing of its three other fields (30_encoding.md R71). -/
theorem packFields_fields {w : Word} (h0 : rz0Field w = 0) (h1 : rz1Field w = 0) :
    packFields (opField w) (widthField w) (countField w) = w := by
  apply BitVec.eq_of_getLsbD_eq
  intro k hk
  have hres := getLsbD_of_reserved h0 h1 hk
  simp only [packFields, opField, widthField, countField, BitVec.getLsbD_or, BitVec.getLsbD_shiftLeft,
    BitVec.getLsbD_setWidth, BitVec.getLsbD_extractLsb', BitVec.getLsbD_ofBool]
  interval_cases k <;> simp at hres ⊢ <;> exact hres

theorem opField_eq_ofNat {w : Word} {n : Nat} (h : (opField w).toNat = n) : opField w = BitVec.ofNat 4 n := by
  rw [← h, BitVec.ofNat_toNat, BitVec.setWidth_eq]

theorem decodePlain_eq_command {n : BitVec 4} {i j : Instr} (h : decodePlain n j = .command i) : n = 0 ∧ j = i := by
  unfold decodePlain at h
  split at h
  case isTrue hn => exact ⟨hn, Decoded.command.inj h⟩
  case isFalse => cases h

theorem decodeTail_eq_command {wide : Bool} {n : BitVec 4} {i : Instr} (h : decodeTail wide n = .command i) :
    encode i = packFields 3 wide n := by
  unfold decodeTail at h
  split at h
  case isTrue hw =>
    obtain ⟨rfl, _⟩ := hw
    cases h
    rfl
  case isFalse =>
    split at h
    case isTrue hw =>
      obtain ⟨rfl, _⟩ := hw
      cases h
      rfl
    case isFalse => cases h

/-- A decoded word is packed from the fields its command has in the map (30_encoding.md R74, R75). -/
theorem encode_eq_of_decode {w : Word} {i : Instr} (h : decode w = .command i) : encode i = w := by
  unfold decode at h
  split at h
  case isTrue => cases h
  case isFalse hrz =>
    obtain ⟨h0, h1⟩ : rz0Field w = 0 ∧ rz1Field w = 0 := by simpa only [not_or, not_not] using hrz
    refine Eq.trans ?_ (packFields_fields h0 h1)
    split at h
    case h_3 hop =>
      rw [decodeTail_eq_command h]
      exact congrArg (packFields · _ _) (opField_eq_ofNat hop).symm
    case h_7 => cases h
    all_goals
      rename_i hop
      obtain ⟨hn, rfl⟩ := decodePlain_eq_command h
      rw [hn, opField_eq_ofNat hop]
      cases widthField w <;> rfl

/-- Settles O2, by the commands one by one. -/
theorem decodeInvertsEncode : Obligations.DecodeInvertsEncode :=
  fun _ hi => decode_encode hi

/-- Settles O3: the decoder accepts only commands of the map, and only from the word they pack. -/
theorem encodeInvertsDecode : Obligations.EncodeInvertsDecode :=
  fun _ _ h => ⟨wellFormed_of_decode h, encode_eq_of_decode h⟩

end Sys2Proof.Proofs
end

section
/-! The fields that no command writes, the parameters among them (O41), and what an input command that succeeds found. -/

namespace Sys2Proof.Proofs

open Sys2Proof.Machine Sys2Proof.Safety

/-- What no command writes of the operands and the parameters: all but `KDATA0` and `KDATA1` (10_state.md R22). -/
structure OperandsKept (s t : State) : Prop where
  seed : t.seed = s.seed
  kdata2 : t.kdata2 = s.kdata2
  kdata3 : t.kdata3 = s.kdata3
  foff : t.foff = s.foff
  flen : t.flen = s.flen
  params : t.params = s.params

/-- What no command but FMIX writes of the staging area (10_state.md R22). -/
structure StagingKept (i : Instr) (s t : State) : Prop where
  kdata0 : t.kdata0 ≠ s.kdata0 → i = .fmix32 ∨ i = .fmix64
  kdata1 : t.kdata1 ≠ s.kdata1 → i = .fmix64

/-- No command writes an operand register but `KDATA0` and `KDATA1`, which FMIX writes. -/
theorem exec_keeps_operands {i : Instr} {s t : State} (h : exec i s = .next t) :
    OperandsKept s t ∧ StagingKept i s t := by
  cases i with
  | init32 | block32 | tail32 _ | feed32 | fin32 =>
    rcases exec_uses32_next rfl h with ⟨_, a, rfl⟩ | ⟨e, rfl, _⟩ | ⟨a, n, m, _, _, _, rfl⟩ | ⟨_, a, rfl⟩
    all_goals exact ⟨⟨rfl, rfl, rfl, rfl, rfl, rfl⟩, absurd rfl, absurd rfl⟩
  | init128 | block128 | tail128 _ | feed128 | fin128 =>
    rcases exec_uses128_next rfl h with ⟨_, a, b, rfl⟩ | ⟨e, rfl, _⟩ | ⟨a, n, m, _, _, _, rfl⟩ | ⟨_, a, b, rfl⟩
    all_goals exact ⟨⟨rfl, rfl, rfl, rfl, rfl, rfl⟩, absurd rfl, absurd rfl⟩
  | fmix32 =>
    cases h
    exact ⟨⟨rfl, rfl, rfl, rfl, rfl, rfl⟩, fun _ => .inl rfl, absurd rfl⟩
  | fmix64 =>
    cases h
    exact ⟨⟨rfl, rfl, rfl, rfl, rfl, rfl⟩, fun _ => .inr rfl, fun _ => rfl⟩

/-- No issued word changes a parameter. -/
theorem issueCommand_keeps_params {w : Word} {s t : State} (h : issueCommand w s = .next t) :
    t.params = s.params := by
  rcases issueCommand_next h with rfl | ⟨i, _, hx⟩
  · rfl
  · exact (exec_keeps_operands hx).1.params

/-- Settles O41, by the three things a step can do. -/
theorem parametersNeverChange : Obligations.ParametersNeverChange := by
  intro s t h
  rcases step_cases h with ht | ⟨rest, _, rfl⟩ | ⟨w, rest, u, _, hu, rfl⟩
  · rw [ht]
  · rfl
  · have kept := issueCommand_keeps_params hu
    exact kept

theorem tail32CountOk_of_passed {n : BitVec 4} (h : tail32CountCheck n = none) : Instr.Tail32CountOk n :=
  not_not.1 fun hbad => nomatch (if_neg hbad).symm.trans h

/-- A command that succeeds is one of the map: a TAIL with another count raises `ILLEGAL_COMMAND`. -/
theorem wellFormed_of_success {i : Instr} {s t : State} (h : exec i s = .next t) (ok : t.lastErr = 0) :
    i.wellFormed = true := by
  have passed {c : Option CmdError} {k : Host.Outcome State Fault Refusal} (hx : unlessRaised c s k = .next t) :
      c = none := by
    rcases unlessRaised_next hx with ⟨e, _, rfl⟩ | ⟨hc, _⟩
    · exact absurd ok e.code_ne_zero
    · exact hc
  cases i with
  | tail32 n => exact decide_eq_true (tail32CountOk_of_passed (passed h))
  | tail128 n =>
    have hc : n.toNat ≠ 0 := fun hbad => nomatch (if_pos hbad).symm.trans (passed h)
    exact decide_eq_true ⟨Nat.one_le_iff_ne_zero.2 hc, Nat.le_of_lt_succ n.isLt⟩
  | init32 | block32 | feed32 | init128 | block128 | feed128 | fin32 | fin128 | fmix32 | fmix64 => rfl

/-- A successful input command of the 32-bit width found its context ready for its bytes (60_exceptions.md R206). -/
theorem ready32_of_success {i : Instr} {s t : State} {n : Nat} (hn : inputBytes32 s i = some n)
    (h : exec i s = .next t) (ok : t.lastErr = 0) : Ready32 s n := by
  obtain ⟨op, k, hop, _, hx⟩ := exec_input32_eq_unlessRaised (wellFormed_of_success h ok) hn
  rcases unlessRaised_next (hx.symm.trans h) with ⟨e, _, rfl⟩ | ⟨ha, _⟩
  · exact absurd ok e.code_ne_zero
  · obtain ⟨hf, _, hadm⟩ := (admit_none_iff ..).1 ha
    exact ⟨hf, hadm hop⟩

/-- A successful input command of the 128-bit width found its context ready for its bytes (60_exceptions.md R206). -/
theorem ready128_of_success {i : Instr} {s t : State} {n : Nat} (hn : inputBytes128 s i = some n)
    (h : exec i s = .next t) (ok : t.lastErr = 0) : Ready128 s n := by
  obtain ⟨op, k, hop, _, hx⟩ := exec_input128_eq_unlessRaised (wellFormed_of_success h ok) hn
  rcases unlessRaised_next (hx.symm.trans h) with ⟨e, _, rfl⟩ | ⟨ha, _⟩
  · exact absurd ok e.code_ne_zero
  · obtain ⟨hf, _, hadm⟩ := (admit_none_iff ..).1 ha
    exact ⟨hf, hadm hop⟩

end Sys2Proof.Proofs
end

section
/-! The invariant of the machine (O39, O40): reset meets it, and every step keeps each of its parts. -/

namespace Sys2Proof.Proofs

open Sys2Proof.Machine Sys2Proof.Safety

/-- `LAST_ERR` and `ERR_SEEN` after an issued word agree, whatever they were. -/
theorem issueCommand_errorsOk {w : Word} {s t : State} (h : issueCommand w s = .next t) : ErrorsOk t := by
  rcases issueCommand_succeeds_or_raises h with ⟨hok, _⟩ | ⟨e, rfl⟩
  · exact ⟨by simp [hok], absurd hok⟩
  · exact ⟨e.code_le, fun _ => rfl⟩

/-- The reading of `nonstd` in one context: set only after a tail, and only under REFERENCE (10_state.md R23, R24). -/
def NonstdSound (p : TailPolicy) (ts nonstd : Bool) : Prop := nonstd = true → ts = true ∧ p = .reference

/-- An admitted input after a tail is one of no byte, or one under REFERENCE. -/
theorem nonstdSound_after {p : TailPolicy} {ts nonstd : Bool} {n : Nat} (h : NonstdSound p ts nonstd)
    (hadm : ts = true → n = 0 ∨ p = .reference) (mixedTail : Bool) :
    NonstdSound p (tsAfter ts mixedTail) (nonstdAfter ts nonstd n) := by
  intro hset
  have hset : nonstd = true ∨ ts = true ∧ 0 < n := by simpa [nonstdAfter] using hset
  rcases hset with hold | ⟨hts, hn⟩
  · obtain ⟨hts, hp⟩ := h hold
    exact ⟨by simp [tsAfter, hts], hp⟩
  · exact ⟨by simp [tsAfter, hts], (hadm hts).resolve_left hn.ne'⟩

theorem exec_keeps_nonstdSound32 {i : Instr} {s t : State} (h : exec i s = .next t)
    (hs : NonstdSound s.params.tailPolicy s.ctx32.ts s.ctx32.nonstd) :
    NonstdSound t.params.tailPolicy t.ctx32.ts t.ctx32.nonstd := by
  cases hi : uses32 i with
  | false => rwa [exec_keeps_ctx32 hi h, (exec_keeps_operands h).1.params]
  | true =>
    rcases exec_uses32_next hi h with ⟨_, a, rfl⟩ | ⟨e, rfl, _⟩ | ⟨a, n, m, _, hn, _, rfl⟩ | ⟨_, a, rfl⟩
    · exact nofun
    · exact hs
    · obtain ⟨_, hadm, _⟩ := ready32_of_success hn h rfl
      exact nonstdSound_after hs hadm m
    · exact hs

theorem exec_keeps_nonstdSound128 {i : Instr} {s t : State} (h : exec i s = .next t)
    (hs : NonstdSound s.params.tailPolicy s.ctx128.ts s.ctx128.nonstd) :
    NonstdSound t.params.tailPolicy t.ctx128.ts t.ctx128.nonstd := by
  cases hi : uses128 i with
  | false => rwa [exec_keeps_ctx128 hi h, (exec_keeps_operands h).1.params]
  | true =>
    rcases exec_uses128_next hi h with ⟨_, a, b, rfl⟩ | ⟨e, rfl, _⟩ | ⟨a, n, m, _, hn, _, rfl⟩ | ⟨_, a, b, rfl⟩
    · exact nofun
    · exact hs
    · obtain ⟨_, hadm, _⟩ := ready128_of_success hn h rfl
      exact nonstdSound_after hs hadm m
    · exact hs

/-- `DIG32` is the accumulator of a FINAL `CTX32` (10_state.md R33). -/
def DigestHeld32 (s : State) : Prop := s.ctx32.final = true → s.dig32 = s.ctx32.h

/-- The digest words are the accumulators of a FINAL `CTX128` (10_state.md R34). -/
def DigestHeld128 (s : State) : Prop :=
  s.ctx128.final = true → s.dig128_1 ++ s.dig128_0 = s.ctx128.h1 ∧ s.dig128_3 ++ s.dig128_2 = s.ctx128.h2

/-- An input is accepted in phase ABSORB only, and FIN32 writes the digest with the phase. -/
theorem exec_keeps_digestHeld32 {i : Instr} {s t : State} (h : exec i s = .next t) (hs : DigestHeld32 s) :
    DigestHeld32 t := by
  cases hi : uses32 i with
  | false => rwa [DigestHeld32, exec_keeps_ctx32 hi h, exec_keeps_dig32 hi h]
  | true =>
    rcases exec_uses32_next hi h with ⟨_, a, rfl⟩ | ⟨e, rfl, _⟩ | ⟨a, n, m, _, hn, _, rfl⟩ | ⟨_, a, rfl⟩
    · exact nofun
    · exact hs
    · obtain ⟨hf, _⟩ := ready32_of_success hn h rfl
      exact fun hfinal => absurd (hf.symm.trans hfinal) nofun
    · exact fun _ => rfl

theorem exec_keeps_digestHeld128 {i : Instr} {s t : State} (h : exec i s = .next t) (hs : DigestHeld128 s) :
    DigestHeld128 t := by
  cases hi : uses128 i with
  | false =>
    obtain ⟨h0, h1, h2, h3⟩ := exec_keeps_dig128 hi h
    rwa [DigestHeld128, exec_keeps_ctx128 hi h, h0, h1, h2, h3]
  | true =>
    rcases exec_uses128_next hi h with ⟨_, a, b, rfl⟩ | ⟨e, rfl, _⟩ | ⟨a, n, m, _, hn, _, rfl⟩ | ⟨_, a, b, rfl⟩
    · exact nofun
    · exact hs
    · obtain ⟨hf, _⟩ := ready128_of_success hn h rfl
      exact fun hfinal => absurd (hf.symm.trans hfinal) nofun
    · exact fun _ => ⟨highHalf_append_lowHalf a, highHalf_append_lowHalf b⟩

/-- The parts of the invariant that concern the error fields, the contexts and the digests. -/
structure RegistersOk (s : State) : Prop where
  errors : ErrorsOk s
  nonstd : NonstdOk s
  digests : DigestsOk s

theorem registersOk_afterReset (p : Params) (es : List HostEvent) (n : Nat) : RegistersOk (State.afterReset p es n) :=
  ⟨⟨Nat.zero_le 5, absurd rfl⟩, ⟨nofun, nofun⟩, nofun, nofun⟩

theorem issueCommand_keeps_registersOk {w : Word} {s t : State} (h : issueCommand w s = .next t)
    (hs : RegistersOk s) : RegistersOk t := by
  obtain ⟨_, ⟨hn32, hn128⟩, hd32, hd128⟩ := hs
  have herrors := issueCommand_errorsOk h
  rcases issueCommand_next h with rfl | ⟨i, _, hx⟩
  · exact ⟨herrors, ⟨hn32, hn128⟩, hd32, hd128⟩
  · exact ⟨herrors, ⟨exec_keeps_nonstdSound32 hx hn32, exec_keeps_nonstdSound128 hx hn128⟩,
      exec_keeps_digestHeld32 hx hd32, exec_keeps_digestHeld128 hx hd128⟩

theorem step_keeps_registersOk {s t : State} (h : step s = .next t) (hs : RegistersOk s) : RegistersOk t := by
  rcases step_cases h with ht | ⟨rest, _, rfl⟩ | ⟨w, rest, u, _, hu, rfl⟩
  · rw [ht]
    exact ⟨hs.errors, hs.nonstd, hs.digests⟩
  · exact registersOk_afterReset _ _ _
  · have kept := issueCommand_keeps_registersOk hu ⟨hs.errors, hs.nonstd, hs.digests⟩
    exact ⟨kept.errors, kept.nonstd, kept.digests⟩

/-- A buffer of `size` bytes in canonical form: `IbufOk` of the buffer and its size. -/
def BufferOk (size : Nat) (m : List Host.Cell) : Prop := Memory.wf m ∧ ∀ c ∈ m, c.1 < size

/-- A store that the port accepts stays inside the buffer (20_memory.md R54). -/
theorem bufferOk_writeBytes {p : Params} {m : List Host.Cell} {a size : Nat} (hm : BufferOk p.ibufSize m)
    (ha : ibufAccepts p a size = true) (v : Word) : BufferOk p.ibufSize (writeBytes m a v size) := by
  obtain ⟨_, _, hend⟩ := of_decide_eq_true ha
  refine ⟨writeBytes_wf a v size hm.1, fun c hc => ?_⟩
  rcases mem_writeBytes hc with ⟨_, hlt⟩ | hold
  · omega
  · exact hm.2 c hold

theorem windowWrite_keeps_bufferOk {off size : Nat} {v : Word} {s t : State} (h : windowWrite off size v s = .next t)
    (hs : BufferOk s.params.ibufSize s.ibuf) : BufferOk s.params.ibufSize t.ibuf := by
  rcases windowWrite_cases off size v s with hb | ⟨r, _, _, hr⟩ | ⟨_, ha, hw⟩
  · cases hb ▸ h
  · rwa [writeReg_keeps_ibuf (hr ▸ h)]
  · obtain rfl := Host.Outcome.next.inj (hw.symm.trans h)
    exact bufferOk_writeBytes hs ha v

theorem step_keeps_bufferOk {s t : State} (h : step s = .next t) (hs : BufferOk s.params.ibufSize s.ibuf) :
    BufferOk s.params.ibufSize t.ibuf := by
  rcases step_next h with ⟨_, rfl⟩ | ⟨e, es, _, hserve⟩
  · exact hs
  rcases serve_next hserve with ⟨r, rfl⟩ | ⟨addr, size, v, u, _, _, hu, rfl⟩ | ⟨_, rfl⟩
  · exact hs
  · have kept := windowWrite_keeps_bufferOk hu hs
    exact kept
  · exact ⟨.nil, nofun⟩

/-- Settles O40: the parameters stay, the buffer stays canonical inside its size, and reset and every issued word keep
the parts on the registers. -/
theorem stepKeepsInvariant : Obligations.StepKeepsInvariant := by
  intro s t ⟨hparams, hibuf, herrors, hnonstd, hdigests⟩ h
  have hp : t.params = s.params := parametersNeverChange s t h
  have hbuffer : BufferOk t.params.ibufSize t.ibuf := by
    rw [hp]
    exact step_keeps_bufferOk h hibuf
  obtain ⟨herrors', hnonstd', hdigests'⟩ := step_keeps_registersOk h ⟨herrors, hnonstd, hdigests⟩
  exact ⟨hp ▸ hparams, hbuffer, herrors', hnonstd', hdigests'⟩

/-- Settles O39: reset empties the buffer, and the default parameters are legal. -/
theorem resetMeetsInvariant : Obligations.ResetMeetsInvariant :=
  have regs : RegistersOk State.reset := registersOk_afterReset Params.default [] 0
  ⟨by decide, ⟨.nil, nofun⟩, regs.errors, regs.nonstd, regs.digests⟩

end Sys2Proof.Proofs
end

section
/-! What stops, and what changes a context, a digest, a length and `ERR_SEEN` (O23, O25, O28, O31, O52). -/

namespace Sys2Proof.Proofs

open Sys2Proof.Machine Sys2Proof.Safety

/-- A check only adds a way to go on. -/
theorem unlessRaised_goes_on {c : Option CmdError} {s : State} {k : Host.Outcome State Fault Refusal}
    (hk : c = none → ∃ t, k = .next t) : ∃ t, unlessRaised c s k = .next t := by
  cases c with
  | none => exact hk rfl
  | some e => exact ⟨raise e s, rfl⟩

/-- A context and a range that pass FEED32's check are ready for its bytes (60_exceptions.md R206). -/
theorem ready32_of_admitted_feed {s : State} (ha : admit32 .feed s.flen.toNat s = none) :
    Ready32 s s.flen.toNat ∧ FeedInRange s := by
  obtain ⟨hf, hin, hadm⟩ := (admit_none_iff ..).1 ha
  exact ⟨⟨hf, hadm nofun⟩, hin rfl⟩

/-- A context and a range that pass FEED128's check are ready for its bytes (60_exceptions.md R206). -/
theorem ready128_of_admitted_feed {s : State} (ha : admit128 .feed s.flen.toNat s = none) :
    Ready128 s s.flen.toNat ∧ FeedInRange s := by
  obtain ⟨hf, hin, hadm⟩ := (admit_none_iff ..).1 ha
  exact ⟨⟨hf, hadm nofun⟩, hin rfl⟩

/-- Settles O23: only FEED has a stop, and it stops where it is admitted and its range is not wholly written. -/
theorem onlyUnwrittenFeedStops : Obligations.OnlyUnwrittenFeedStops := by
  intro i s
  cases i with
  | init32 | init128 | fmix32 | fmix64 => exact .inl ⟨_, rfl⟩
  | block32 | block128 | fin32 | fin128 => exact .inl (unlessRaised_goes_on fun _ => ⟨_, rfl⟩)
  | tail32 n | tail128 n =>
    exact .inl (unlessRaised_goes_on fun _ => unlessRaised_goes_on fun _ => ⟨_, rfl⟩)
  | feed32 =>
    by_cases hstop : admit32 .feed s.flen.toNat s = none ∧ ¬ FeedWritten s
    · obtain ⟨ha, hw⟩ := hstop
      obtain ⟨hr, hin⟩ := ready32_of_admitted_feed ha
      exact .inr ⟨(exec_feed32_fault_iff hr hin).2 hw, hw, .inl ⟨rfl, hr, hin⟩⟩
    · refine .inl (unlessRaised_goes_on fun ha => ?_)
      rw [feedBytes_of_written (not_not.1 fun hw => hstop ⟨ha, hw⟩)]
      exact ⟨_, rfl⟩
  | feed128 =>
    by_cases hstop : admit128 .feed s.flen.toNat s = none ∧ ¬ FeedWritten s
    · obtain ⟨ha, hw⟩ := hstop
      obtain ⟨hr, hin⟩ := ready128_of_admitted_feed ha
      exact .inr ⟨(exec_feed128_fault_iff hr hin).2 hw, hw, .inr ⟨rfl, hr, hin⟩⟩
    · refine .inl (unlessRaised_goes_on fun ha => ?_)
      rw [feedBytes_of_written (not_not.1 fun hw => hstop ⟨ha, hw⟩)]
      exact ⟨_, rfl⟩

/-- What a step changes of the contexts and the digests, it changes by a reset or by the command that the port's next
event issues: a command that `uses` does not select leaves what `field` reads. -/
theorem step_changes {α : Type} {field : State → α} {uses : Instr → Prop}
    (hkept : ∀ s t, HashStateKept s t → field t = field s)
    (hexec : ∀ i s t, ¬ uses i → exec i s = .next t → field t = field s)
    {s t : State} (h : step s = .next t) (hne : field t ≠ field s) :
    HeadIs s .reset ∨ ∃ i, uses i ∧ HeadCommand s i := by
  rcases step_hashState h with hr | kept | ⟨i, rest, u, hi, _, hx, rfl⟩
  · exact .inl hr
  · exact absurd (hkept s t kept) hne
  · refine .inr ⟨i, not_not.1 fun huses => hne ?_, hi⟩
    have hport : field (u.setReply .written) = field u := hkept u _ ⟨rfl, rfl, rfl, rfl, rfl, rfl, rfl⟩
    have hrest : field (s.setPending rest) = field s := hkept s _ ⟨rfl, rfl, rfl, rfl, rfl, rfl, rfl⟩
    rw [hport, hexec i _ u huses hx, hrest]

/-- Settles O25: a command not of its width leaves a context. -/
theorem contextChangesOnlyByItsCommands : Obligations.ContextChangesOnlyByItsCommands := fun _ _ h =>
  ⟨step_changes (uses := (uses32 · = true)) (fun _ _ kept => kept.ctx32)
      (fun _ _ _ huses => exec_keeps_ctx32 (Bool.eq_false_of_not_eq_true huses)) h,
    step_changes (uses := (uses128 · = true)) (fun _ _ kept => kept.ctx128)
      (fun _ _ _ huses => exec_keeps_ctx128 (Bool.eq_false_of_not_eq_true huses)) h⟩

/-- No command but FIN32 writes `DIG32` (10_state.md R33). -/
theorem exec_keeps_dig32_of_ne_fin32 {i : Instr} {s t : State} (hne : i ≠ .fin32) (h : exec i s = .next t) :
    t.dig32 = s.dig32 := by
  cases hi : uses32 i with
  | false => exact exec_keeps_dig32 hi h
  | true =>
    rcases exec_uses32_next hi h with ⟨_, a, rfl⟩ | ⟨e, rfl, _⟩ | ⟨a, n, m, _, _, _, rfl⟩ | ⟨hfin, _⟩
    · rfl
    · rfl
    · rfl
    · exact absurd hfin hne

/-- The four digest words of the 128-bit width. -/
def digest128 (s : State) : Word × Word × Word × Word := (s.dig128_0, s.dig128_1, s.dig128_2, s.dig128_3)

theorem digest128_eq_iff (s t : State) : digest128 t = digest128 s ↔ DigestKept128 s t := by
  simp [digest128, DigestKept128]

/-- No command but FIN128 writes the digest words of its width (10_state.md R34). -/
theorem exec_keeps_digest128_of_ne_fin128 {i : Instr} {s t : State} (hne : i ≠ .fin128) (h : exec i s = .next t) :
    digest128 t = digest128 s := by
  cases hi : uses128 i with
  | false => exact (digest128_eq_iff s t).2 (exec_keeps_dig128 hi h)
  | true =>
    rcases exec_uses128_next hi h with ⟨_, a, b, rfl⟩ | ⟨e, rfl, _⟩ | ⟨a, n, m, _, _, _, rfl⟩ | ⟨hfin, _⟩
    · rfl
    · rfl
    · rfl
    · exact absurd hfin hne

/-- Settles O28: a command other than FIN leaves the digest. -/
theorem digestsWrittenOnlyByFin : Obligations.DigestsWrittenOnlyByFin := by
  intro s t h
  refine ⟨fun hne => ?_, fun hne => ?_⟩
  · have changed := step_changes (field := State.dig32) (uses := (· = .fin32)) (fun _ _ kept => kept.dig32)
      (fun _ _ _ => exec_keeps_dig32_of_ne_fin32) h hne
    exact changed.imp_right fun ⟨_, hfin, hi⟩ => hfin ▸ hi
  · have hne : digest128 t ≠ digest128 s := fun heq => by
      obtain ⟨h0, h1, h2, h3⟩ := (digest128_eq_iff s t).1 heq
      simp [h0, h1, h2, h3] at hne
    have changed := step_changes (uses := (· = .fin128)) (fun s t kept => (digest128_eq_iff s t).2 kept.dig128)
      (fun _ _ _ => exec_keeps_digest128_of_ne_fin128) h hne
    exact changed.imp_right fun ⟨_, hfin, hi⟩ => hfin ▸ hi

/-- A length with no overflow is the sum as a number (60_exceptions.md R207). -/
theorem toNat_add_ofNat {len : Word} {n : Nat} (h : len.toNat + n ≤ 4294967295) :
    (len + BitVec.ofNat 32 n).toNat = len.toNat + n := by
  rw [BitVec.toNat_add, BitVec.toNat_ofNat]
  omega

/-- The length of `CTX32` after a successful command. -/
theorem exec_success_len32 {i : Instr} {s t : State} (h : exec i s = .next t) (ok : t.lastErr = 0) :
    (∀ n, inputBytes32 s i = some n → t.ctx32.len.toNat = s.ctx32.len.toNat + n) ∧
    (inputBytes32 s i = none → i ≠ .init32 → t.ctx32.len = s.ctx32.len) ∧ (i = .init32 → t.ctx32.len = 0) := by
  cases hi : uses32 i with
  | false =>
    obtain ⟨hne, _, hn⟩ := no_input_of_not_uses32 hi s
    simp [exec_keeps_ctx32 hi h, hne, hn]
  | true =>
    rcases exec_uses32_next hi h with ⟨rfl, a, rfl⟩ | ⟨e, rfl, _⟩ | ⟨a, n, m, hne, hn, _, rfl⟩ | ⟨rfl, a, rfl⟩
    · simp [inputBytes32]
    · exact absurd ok e.code_ne_zero
    · obtain ⟨_, _, hlen⟩ := ready32_of_success hn h ok
      simp [hn, hne, toNat_add_ofNat hlen]
    · simp [inputBytes32]

/-- The length of `CTX128` after a successful command. -/
theorem exec_success_len128 {i : Instr} {s t : State} (h : exec i s = .next t) (ok : t.lastErr = 0) :
    (∀ n, inputBytes128 s i = some n → t.ctx128.len.toNat = s.ctx128.len.toNat + n) ∧
    (inputBytes128 s i = none → i ≠ .init128 → t.ctx128.len = s.ctx128.len) ∧ (i = .init128 → t.ctx128.len = 0) := by
  cases hi : uses128 i with
  | false =>
    obtain ⟨hne, _, hn⟩ := no_input_of_not_uses128 hi s
    simp [exec_keeps_ctx128 hi h, hne, hn]
  | true =>
    rcases exec_uses128_next hi h with ⟨rfl, a, b, rfl⟩ | ⟨e, rfl, _⟩ | ⟨a, n, m, hne, hn, _, rfl⟩ | ⟨rfl, a, b, rfl⟩
    · simp [inputBytes128]
    · exact absurd ok e.code_ne_zero
    · obtain ⟨_, _, hlen⟩ := ready128_of_success hn h ok
      simp [hn, hne, toNat_add_ofNat hlen]
    · simp [inputBytes128]

/-- Settles O31, width by width. -/
theorem lengthCountsBytesExactly : Obligations.LengthCountsBytesExactly := by
  intro i s t h ok
  obtain ⟨hinput32, hother32, hinit32⟩ := exec_success_len32 h ok
  exact ⟨hinput32, hother32, hinit32, exec_success_len128 h ok⟩

/-- A step sets `ERR_SEEN` only where it issues a word that fails. -/
theorem errSeen_set_by_command {s t : State} (h : step s = .next t) (hs : s.errSeen = false) (ht : t.errSeen = true) :
    ∃ w rest, s.pending = .write (s.params.base + 0x008) 4 w :: rest ∧ t.lastErr ≠ 0 := by
  rcases step_cases h with hframe | ⟨rest, _, rfl⟩ | ⟨w, rest, u, hp, hu, rfl⟩
  · rw [hframe] at ht
    exact absurd (hs.symm.trans ht) nofun
  · cases ht
  · rcases issueCommand_succeeds_or_raises hu with ⟨_, hkept⟩ | ⟨e, rfl⟩
    · exact absurd (hs.symm.trans (hkept.symm.trans ht)) nofun
    · exact ⟨w, rest, hp, e.code_ne_zero⟩

/-- Settles O52: what keeps `ERR_SEEN`, and what sets it. -/
theorem errSeenIsSticky : Obligations.ErrSeenIsSticky :=
  fun _ _ h => ⟨step_keeps_errSeen h, errSeen_set_by_command h⟩

end Sys2Proof.Proofs
end

section
/-! One access served (O5, O34, O35, O36, O53) and one reset (O37, O38): an access in the window is a window read or
write at its offset. -/

namespace Sys2Proof.Proofs

open Sys2Proof.Machine Sys2Proof.Safety

theorem inWindow_add {p : Params} {off : Nat} (ho : off < 8192) : InWindow p (p.base + off) :=
  ⟨Nat.le_add_right _ _, Nat.add_lt_add_left ho _⟩

/-- A step that faces a write in the window is the window write at its offset, acknowledged. -/
theorem step_windowWrite {s : State} {off size : Nat} {v : Word} {rest : List HostEvent} (ho : off < 8192)
    (hp : s.pending = .write (s.params.base + off) size v :: rest) :
    step s = mapNext (fun t => t.setReply .written) (windowWrite off size v (s.setPending rest)) := by
  rw [step_of_pending hp, serve, State.setPending_params, if_pos (inWindow_add ho), Nat.add_sub_cancel_left]

/-- What the port answers to a read in the window: the value, or the end of the run at a bus error (93 I7). -/
def answerRead (size : Nat) (value : Option Word) (s : State) : Host.Outcome State Fault Refusal :=
  match value with
  | some v => .next (s.setReply (.data size v))
  | none => .refused .busError

theorem serve_read_of_inWindow {s : State} {addr size : Nat} (hw : InWindow s.params addr) :
    serve (.read addr size) s = answerRead size (windowRead (addr - s.params.base) size s) s := by
  rw [serve, if_pos hw]
  rfl

theorem hostBytes_eq_map (s : State) (a n : Nat) :
    hostBytes s a n = (List.range n).map (fun i => hostByte s (a + i)) := by
  induction n generalizing a with
  | zero => rfl
  | succ n ih => simp [hostBytes, ih, List.range_succ_eq_map, Nat.add_assoc, Nat.add_comm 1]

/-- No read returns anything of the events still to be served or of the port's last answer. -/
theorem windowRead_setPending_setReply (off size : Nat) (s : State) (es : List HostEvent) (a : Reply) :
    windowRead off size ((s.setPending es).setReply a) = windowRead off size s := by
  have hreg (r : Reg) : readReg r ((s.setPending es).setReply a) = readReg r s := by cases r <;> rfl
  have hbyte (x : Nat) : hostByte ((s.setPending es).setReply a) x = hostByte s x := rfl
  simp only [windowRead, hreg, hostBytes_eq_map, hbyte, State.setReply_params, State.setPending_params]

theorem windowRead_setPending (off size : Nat) (s : State) (es : List HostEvent) :
    windowRead off size (s.setPending es) = windowRead off size s :=
  windowRead_setPending_setReply off size s es s.reply

/-- A step that faces a read in the window answers the window read at its offset. -/
theorem step_windowRead {s : State} {off size : Nat} {rest : List HostEvent} (ho : off < 8192)
    (hp : s.pending = .read (s.params.base + off) size :: rest) :
    step s = answerRead size (windowRead off size s) (s.setPending rest) := by
  have hw : InWindow (s.setPending rest).params (s.params.base + off) := inWindow_add ho
  rw [step_of_pending hp, serve_read_of_inWindow hw, State.setPending_params, Nat.add_sub_cancel_left,
    windowRead_setPending]

/-- A register stands at a multiple of 4 that is not reserved (10_state.md R41). -/
theorem regOffset_wellPlaced (r : Reg) :
    regOffset r % 4 = 0 ∧ ¬(0x034 ≤ regOffset r ∧ regOffset r ≤ 0x03F) ∧ regOffset r < 0x058 := by
  cases r <;> decide

/-- No register stands at a misaligned or reserved offset (20_memory.md R53). -/
theorem regAt_eq_none {off : Nat} (h : off % 4 ≠ 0 ∨ (0x034 ≤ off ∧ off ≤ 0x03F) ∨ 0x058 ≤ off) : regAt off = none := by
  refine Option.eq_none_iff_forall_ne_some.2 fun r hr => ?_
  obtain ⟨halign, hreserved, hend⟩ := regOffset_wellPlaced r
  rw [regOffset_of_regAt hr] at halign hreserved hend
  omega

/-- A register access of another width, or where no register stands, is a bus error, read or write
(20_memory.md R53). -/
theorem window_busError {off size : Nat} (ho : off < 0x1000) (hbad : size ≠ 4 ∨ regAt off = none) (v : Word)
    (s : State) :
    windowRead off size s = none ∧ windowWrite off size v s = .refused .busError := by
  rcases hbad with hsize | hreg
  · simp [windowRead, windowWrite, ho, hsize]
  · simp [windowRead, windowWrite, ho, hreg]

/-- A read at an offset where the window read returns nothing is a bus error. -/
theorem readIsBusError_of_windowRead {off size : Nat} (ho : off < 8192) (h : ∀ s, windowRead off size s = none) :
    ReadIsBusError off size := by
  intro s rest hp
  rw [step_windowRead ho hp, h]
  rfl

/-- A write at an offset where the window refuses writes is a bus error. -/
theorem writeIsBusError_of_windowWrite {off size : Nat} (ho : off < 8192)
    (h : ∀ v s, windowWrite off size v s = .refused .busError) : WriteIsBusError off size := by
  intro s v rest hp
  rw [step_windowWrite ho hp, h]
  rfl

/-- `CMD` is write only (10_state.md R40). -/
theorem readIsBusError_cmd : ReadIsBusError (regOffset .cmd) 4 :=
  readIsBusError_of_windowRead (by decide) fun s => windowRead_regOffset .cmd s

/-- Settles O5: the write is served by issuing its word, and no read of `CMD` returns a value. -/
theorem stepRunsDecodedCommand : Obligations.StepRunsDecodedCommand := by
  refine ⟨fun s w i rest hd hp => ?_, fun s w r rest hd hp => ?_, readIsBusError_cmd⟩
  · rw [step_registerWrite (r := .cmd) hp, writeReg, issueCommand_of_command hd, State.setPending]
    cases exec i { s with pending := rest } <;> rfl
  · rw [step_registerWrite (r := .cmd) hp, writeReg, issueCommand_of_illegal hd]
    rfl

/-- Settles O34: no register answers such an access, the read-only registers refuse writes, and `CMD` has no value. -/
theorem badRegisterAccessIsBusError : Obligations.BadRegisterAccessIsBusError := by
  refine ⟨fun off size ho hbad => ?_, ?_, readIsBusError_cmd⟩
  · have bad := window_busError ho (hbad.imp_right regAt_eq_none)
    exact ⟨readIsBusError_of_windowRead (by omega) fun s => (bad 0 s).1,
      writeIsBusError_of_windowWrite (by omega) fun v s => (bad v s).2⟩
  · rw [← map_regOffset_readOnlyRegs, List.forall_mem_map]
    exact fun r hr => writeIsBusError_regOffset (writeReg_readOnly hr)

/-- The accesses that the `IBUF` region accepts (20_memory.md R54). -/
theorem ibufAccepts_iff {p : Params} {a size : Nat} :
    ibufAccepts p a size = true ↔ (size = 1 ∨ size = 2 ∨ size = 4) ∧ a % size = 0 ∧ a + size ≤ p.ibufSize :=
  decide_eq_true_iff

theorem windowWrite_ibuf_eq (a size : Nat) (v : Word) (s : State) :
    windowWrite (0x1000 + a) size v s =
      if ibufAccepts s.params a size then .next (s.setIbuf (writeBytes s.ibuf a v size)) else .refused .busError := by
  simp [windowWrite]

theorem windowRead_ibuf_eq (a size : Nat) (s : State) :
    windowRead (0x1000 + a) size s =
      if ibufAccepts s.params a size then some (leWord 32 (hostBytes s a size)) else none := by
  simp [windowRead]

/-- The lanes of the data that a host read returns: byte `i` is the byte at `a + i`, and no bit stands above them
(20_memory.md R52). -/
theorem hostBytes_lanes (s : State) (a : Nat) {size : Nat} (hsize : size ≤ 4) :
    (leWord 32 (hostBytes s a size)).toNat < 256 ^ size ∧
      ∀ i, i < size → byteOf (leWord 32 (hostBytes s a size)) i = hostByte s (a + i) := by
  have hlen : (hostBytes s a size).length = size := by simp [hostBytes_eq_map]
  refine ⟨?_, fun i hi => ?_⟩
  · have hlt := leWord_toNat_lt 32 (hostBytes s a size)
    rwa [hlen, Nat.pow_mul] at hlt
  · rw [byteOf_leWord _ (hi.trans_le hsize), hostBytes_eq_map]
    simp [hi]

/-- Settles O35: an accepted write stores its bytes and an accepted read returns them in their lanes; the port refuses
every other access. -/
theorem ibufAccesses : Obligations.IbufAccesses := by
  intro s a size v rest ha
  have ho : 0x1000 + a < 8192 := by omega
  refine ⟨fun hp => ?_, fun hp => ?_⟩
  · rw [step_windowWrite ho hp, windowWrite_ibuf_eq, State.setPending_params]
    refine ⟨fun hok => ?_, fun hbad => ?_⟩
    · rw [if_pos (ibufAccepts_iff.2 hok)]
      exact ⟨_, rfl, fun x => readByte_writeBytes s.ibuf a v size x⟩
    · rw [if_neg (mt ibufAccepts_iff.1 hbad)]
      rfl
  · rw [step_windowRead ho hp, windowRead_ibuf_eq]
    refine ⟨fun hok => ?_, fun hbad => ?_⟩
    · rw [if_pos (ibufAccepts_iff.2 hok)]
      exact ⟨_, rfl, hostBytes_lanes s a (by omega)⟩
    · rw [if_neg (mt ibufAccepts_iff.1 hbad)]
      rfl

/-- Settles O36: such an address is not in the window. -/
theorem outsideWindowIsUnseen : Obligations.OutsideWindowIsUnseen := by
  intro s addr size v rest hout hp
  have hw : ¬ InWindow s.params addr := fun ⟨hlo, hhi⟩ => by omega
  rcases hp with hp | hp
  all_goals
    rw [step_of_pending hp]
    exact if_neg hw

/-- A step that faces a reset leaves the reset state, with the later events pending. -/
theorem step_reset {s : State} {rest : List HostEvent} (hp : s.pending = .reset :: rest) :
    step s = .next (State.afterReset s.params rest (s.resets + 1)) :=
  step_of_pending hp

/-- Settles O37: the reset state field by field, and INIT with `SEED` = 0. -/
theorem resetRestoresEveryField : Obligations.ResetRestoresEveryField := by
  intro s rest hp
  refine ⟨_, step_reset hp, rfl, rfl, rfl, rfl, rfl, rfl, rfl, rfl, rfl, rfl, rfl, rfl, rfl, rfl, rfl, rfl, rfl, rfl,
    fun r hr => ⟨_, rfl, ?_⟩, fun r hr => ⟨_, rfl, ?_⟩⟩
  · rw [succeed32_ctx32, seed32_of_seed_zero hr]
    rfl
  · rw [succeed128_ctx128, hr]
    rfl

/-- Settles O38: the reset state lists no byte. -/
theorem resetLeavesIbufUnwritten : Obligations.ResetLeavesIbufUnwritten := by
  refine ⟨readByte_nil, fun s t rest hp h => ?_⟩
  cases (step_reset hp).symm.trans h
  exact readByte_nil

/-- A read that is served leaves a reply, and leaves the same reply on any events and after any reply. -/
theorem serve_read_next {s t : State} {addr size : Nat} (h : serve (.read addr size) s = .next t) :
    ∃ r, t = s.setReply r ∧
      ∀ es a, serve (.read addr size) ((s.setPending es).setReply a) = .next ((s.setPending es).setReply r) := by
  by_cases hw : InWindow s.params addr
  · rw [serve_read_of_inWindow hw] at h
    cases hv : windowRead (addr - s.params.base) size s with
    | none => cases hv ▸ h
    | some v =>
      rw [hv] at h
      refine ⟨_, (Host.Outcome.next.inj h).symm, fun es a => ?_⟩
      have hw' : InWindow ((s.setPending es).setReply a).params addr := hw
      rw [serve_read_of_inWindow hw', windowRead_setPending_setReply]
      exact congrArg (answerRead size · _) hv
  · refine ⟨.elsewhere, (Host.Outcome.next.inj ((if_neg hw).symm.trans h)).symm, fun es a => if_neg hw⟩

/-- Settles O53, by `serve_read_next`. -/
theorem readsHaveNoSideEffect : Obligations.ReadsHaveNoSideEffect := by
  intro s t addr size rest hp h
  rw [step_of_pending hp] at h
  obtain ⟨r, rfl, again⟩ := serve_read_next h
  exact ⟨rfl, fun rest' => again rest' r⟩

end Sys2Proof.Proofs
end

section
/-! The operand registers that each command reads (O30). -/

namespace Sys2Proof.Proofs

open Sys2Proof.Machine Sys2Proof.Safety

/-- The operand registers that a command reads (30_encoding.md R73). -/
def readOperands : Instr → List Reg
  | .init32 | .init128 => [.seed]
  | .block32 | .tail32 _ | .fmix32 => [.kdata0]
  | .feed32 | .feed128 => [.foff, .flen]
  | .block128 | .tail128 _ => [.kdata0, .kdata1, .kdata2, .kdata3]
  | .fin32 | .fin128 => []
  | .fmix64 => [.kdata0, .kdata1]

/-- Up to three staged bytes stand in `KDATA0` alone (00_scope.md R14). -/
theorem tailword32_congr {s s' : State} {n : Nat} (hn : n ≤ 3)
    (h : s'.kdata0.toNat % 256 ^ n = s.kdata0.toNat % 256 ^ n) :
    tailword32 (stagingBytes s' n) = tailword32 (stagingBytes s n) := by
  rw [tailword32_stagingBytes s' hn, tailword32_stagingBytes s hn, h]

theorem raise_storeOperand (w : Reg × Word) (e : CmdError) (s : State) :
    raise e (storeOperand s w) = storeOperand (raise e s) w := by
  obtain ⟨r, v⟩ := w
  cases r <;> rfl

theorem storeOperand_kdata0 {r : Reg} (hr : r ≠ .kdata0) (s : State) (v : Word) :
    (storeOperand s (r, v)).kdata0 = s.kdata0 := by
  cases r
  case kdata0 => exact absurd rfl hr
  all_goals rfl

theorem kdata_storeOperand {r : Reg} (hr : r ∉ [.kdata0, .kdata1, .kdata2, .kdata3]) (s : State) (v : Word) :
    kdata (storeOperand s (r, v)) = kdata s := by
  cases r
  case kdata0 | kdata1 | kdata2 | kdata3 => simp at hr
  all_goals unfold kdata; rfl

theorem feedBytes_storeOperand {r : Reg} (hr : r ∉ [.foff, .flen]) (s : State) (v : Word) :
    feedBytes (storeOperand s (r, v)) = feedBytes s := by
  cases r
  case foff | flen => simp at hr
  all_goals rfl

/-- A command runs the same with an operand replaced that it does not read, and leaves the replacement. TAIL32 reads
only `KDATA0`: past its count check it takes at most three bytes. -/
theorem exec_storeOperand {i : Instr} {r : Reg} (hr : r ∉ readOperands i) (s : State) (v : Word) :
    exec i (storeOperand s (r, v)) = mapNext (fun t => storeOperand t (r, v)) (exec i s) := by
  have through := @unlessRaised_mapNext (fun t => storeOperand t (r, v)) (raise_storeOperand (r, v))
  cases i with
  | init32 | init128 =>
    cases r
    case seed => simp [readOperands] at hr
    all_goals rfl
  | block32 =>
    cases r
    case kdata0 => simp [readOperands] at hr
    all_goals exact through rfl
  | tail32 n =>
    refine unlessRaised_mapNext_of_passed (f := fun t => storeOperand t (r, v)) (raise_storeOperand (r, v)) fun hc => ?_
    have hk : (storeOperand s (r, v)).kdata0 = s.kdata0 := storeOperand_kdata0 (by simpa [readOperands] using hr) s v
    simp only [tail32, tailword32_congr (tail32CountOk_of_passed hc).2 (congrArg (·.toNat % 256 ^ n.toNat) hk)]
    cases r <;> exact through rfl
  | feed32 | feed128 =>
    have hb : feedBytes (storeOperand s (r, v)) = feedBytes s := feedBytes_storeOperand hr s v
    cases r
    case foff | flen => simp [readOperands] at hr
    all_goals
      refine through ?_
      rw [hb]
      cases feedBytes s <;> rfl
  | block128 =>
    cases r
    case kdata0 | kdata1 | kdata2 | kdata3 => simp [readOperands] at hr
    all_goals exact through rfl
  | tail128 n =>
    refine through ?_
    rw [stagingBytes_congr (kdata_storeOperand hr s v)]
    cases r <;> exact through rfl
  | fin32 | fin128 => cases r <;> exact through rfl
  | fmix32 =>
    cases r
    case kdata0 => simp [readOperands] at hr
    all_goals rfl
  | fmix64 =>
    cases r
    case kdata0 | kdata1 => simp [readOperands] at hr
    all_goals rfl

/-- Settles O30: each command on its row of R73, and what no command writes. -/
theorem operandsReadByEachCommand : Obligations.OperandsReadByEachCommand := by
  intro i s v
  refine ⟨fun _ _ => exec_storeOperand (r := .seed) ?_ s v,
    fun _ _ => ⟨exec_storeOperand (r := .foff) ?_ s v, exec_storeOperand (r := .flen) ?_ s v⟩,
    fun _ _ _ _ _ _ => exec_storeOperand (r := .kdata0) ?_ s v,
    fun _ _ _ => exec_storeOperand (r := .kdata1) ?_ s v,
    fun _ _ => ⟨exec_storeOperand (r := .kdata2) ?_ s v, exec_storeOperand (r := .kdata3) ?_ s v⟩, fun t h => ?_⟩
  case refine_8 =>
    obtain ⟨kept, staging⟩ := exec_keeps_operands h
    exact ⟨staging.kdata0, staging.kdata1, kept.kdata2, kept.kdata3, kept.seed, kept.foff, kept.flen⟩
  all_goals cases i <;> simp_all [readOperands]

end Sys2Proof.Proofs
end

section
/-! Two runs of one command (O55): what a command leaves in its context and reports depends on the context, the
parameters and the input it reads. -/

namespace Sys2Proof.Proofs

open Sys2Proof.Machine Sys2Proof.Safety

/-- The admission checks read the parameters and, for FEED, whether the range is in the buffer. -/
theorem admission_congr {s s' : State} {op : AdmitOp} (hp : s'.params = s.params)
    (hr : op = .feed → (FeedInRange s' ↔ FeedInRange s)) (final ts : Bool) (len : Word) (n : Nat) :
    admission final ts len op n s' = admission final ts len op n s := by
  have hrange : (op = .feed ∧ s.params.ibufSize < s'.foff.toNat + s'.flen.toNat) ↔
      (op = .feed ∧ s.params.ibufSize < s.foff.toNat + s.flen.toNat) :=
    and_congr_right fun ho => by simpa only [FeedInRange, not_le, hp] using not_congr (hr ho)
  simp only [admission, hp, hrange]

/-- Two runs through one check: both raise its error, or both go on. -/
theorem unlessRaised_two_runs {R : State → State → Prop} {c : Option CmdError} {s s' t : State}
    {k k' : Host.Outcome State Fault Refusal} (hraise : ∀ e, R (raise e s) (raise e s'))
    (hk : c = none → k = .next t → ∃ t', k' = .next t' ∧ R t t') (h : unlessRaised c s k = .next t) :
    ∃ t', unlessRaised c s' k' = .next t' ∧ R t t' := by
  rcases unlessRaised_next h with ⟨e, rfl, rfl⟩ | ⟨rfl, hnext⟩
  · exact ⟨_, rfl, hraise e⟩
  · exact hk rfl hnext

/-- Two states that agree on what a command of the 32-bit width reads. -/
structure SameInputs32 (i : Instr) (s s' : State) : Prop where
  params : s'.params = s.params
  ctx : s'.ctx32 = s.ctx32
  seed : i = .init32 → s'.seed = s.seed
  block : i = .block32 → s'.kdata0 = s.kdata0
  tail : ∀ n, i = .tail32 n → s'.kdata0.toNat % 256 ^ n.toNat = s.kdata0.toNat % 256 ^ n.toNat
  feed : i = .feed32 → s'.flen = s.flen ∧ (FeedInRange s' ↔ FeedInRange s) ∧ feedBytes s' = feedBytes s

/-- Two states that agree on what a command of the 32-bit width leaves and reports. -/
structure SameResult32 (i : Instr) (t t' : State) : Prop where
  ctx : t'.ctx32 = t.ctx32
  lastErr : t'.lastErr = t.lastErr
  digest : i = .fin32 → t.lastErr = 0 → t'.dig32 = t.dig32

/-- Agreeing states are taken to agreeing results (42_murmur_finalizer.md R179). -/
theorem exec_two_runs32 {i : Instr} {s s' t : State} (hi : uses32 i = true) (same : SameInputs32 i s s')
    (h : exec i s = .next t) : ∃ t', exec i s' = .next t' ∧ SameResult32 i t t' := by
  obtain ⟨hp, hc, hseed, hblock, htail, hfeed⟩ := same
  have hraise (e : CmdError) : SameResult32 i (raise e s) (raise e s') :=
    ⟨hc, rfl, fun _ ok => absurd ok e.code_ne_zero⟩
  have hadmit (op : AdmitOp) (hr : op = .feed → (FeedInRange s' ↔ FeedInRange s)) (n : Nat) :
      admit32 op n s' = admit32 op n s := by
    rw [admit32, admission_congr hp hr, hc, admit32]
  cases i with
  | init32 =>
    cases h
    exact ⟨_, rfl, by simp [seed32, hp, hseed rfl], rfl, nofun⟩
  | block32 =>
    rw [exec, execBlock32, hadmit .block nofun, hc, hblock rfl]
    refine unlessRaised_two_runs hraise (fun _ hk => ?_) h
    cases hk
    exact ⟨_, rfl, rfl, rfl, nofun⟩
  | tail32 n =>
    rw [exec, execTail32, hadmit .tail nofun, hc]
    refine unlessRaised_two_runs hraise (fun hcount => unlessRaised_two_runs hraise fun _ hk => ?_) h
    have hmix : tail32 s.ctx32.h (stagingBytes s' n.toNat) = tail32 s.ctx32.h (stagingBytes s n.toNat) :=
      congrArg (s.ctx32.h ^^^ mixk32 ·) (tailword32_congr (tail32CountOk_of_passed hcount).2 (htail n rfl))
    cases hk
    rw [hmix]
    exact ⟨_, rfl, rfl, rfl, nofun⟩
  | feed32 =>
    obtain ⟨hlen, hin, hb⟩ := hfeed rfl
    rw [exec, execFeed32, hadmit .feed fun _ => hin, hc, hlen, hb]
    refine unlessRaised_two_runs hraise (fun _ hk => ?_) h
    cases hbs : feedBytes s with
    | none => cases hbs ▸ hk
    | some bs =>
      rw [hbs] at hk
      cases hk
      exact ⟨_, rfl, rfl, rfl, nofun⟩
  | fin32 =>
    rw [exec, execFin32, hadmit .fin nofun, hc]
    refine unlessRaised_two_runs hraise (fun _ hk => ?_) h
    cases hk
    exact ⟨_, rfl, rfl, rfl, fun _ _ => rfl⟩
  | init128 | block128 | tail128 _ | feed128 | fin128 | fmix32 | fmix64 => cases hi

/-- The staging registers stand in the staging area in order. -/
theorem kdata_eq_of_stagingArea {s s' : State} (h : stagingArea s' = stagingArea s) {q : Nat} (hq : q < 4) :
    kdata s' q = kdata s q := by
  apply BitVec.eq_of_getLsbD_eq
  intro m hm
  have hk : 32 * q + m < 128 := by omega
  have hdiv : (32 * q + m) / 32 = q := by omega
  have hmod : (32 * q + m) % 32 = m := by omega
  have hbit := getLsbD_stagingArea s' hk
  rwa [h, getLsbD_stagingArea s hk, hdiv, hmod, eq_comm] at hbit

theorem stagedK1_congr {s s' : State} (h : stagingArea s' = stagingArea s) : stagedK1 s' = stagedK1 s :=
  congrArg₂ joinHalves (kdata_eq_of_stagingArea h (q := 1) (by decide)) (kdata_eq_of_stagingArea h (q := 0) (by decide))

theorem stagedK2_congr {s s' : State} (h : stagingArea s' = stagingArea s) : stagedK2 s' = stagedK2 s :=
  congrArg₂ joinHalves (kdata_eq_of_stagingArea h (q := 3) (by decide)) (kdata_eq_of_stagingArea h (q := 2) (by decide))

/-- The tail words of TAIL128 depend on the staging area's low bytes only. -/
theorem tailwords128_congr {s s' : State} {n : Nat}
    (h : (stagingArea s').toNat % 256 ^ n = (stagingArea s).toNat % 256 ^ n) :
    tailwords128 (stagingBytes s' n) = tailwords128 (stagingBytes s n) := by
  rw [tailwords128_eq_extract, tailwords128_eq_extract, leWord_stagingBytes, leWord_stagingBytes, h]

/-- Two states that agree on what a command of the 128-bit width reads. -/
structure SameInputs128 (i : Instr) (s s' : State) : Prop where
  params : s'.params = s.params
  ctx : s'.ctx128 = s.ctx128
  seed : i = .init128 → s'.seed = s.seed
  block : i = .block128 → stagingArea s' = stagingArea s
  tail : ∀ n, i = .tail128 n → (stagingArea s').toNat % 256 ^ n.toNat = (stagingArea s).toNat % 256 ^ n.toNat
  feed : i = .feed128 → s'.flen = s.flen ∧ (FeedInRange s' ↔ FeedInRange s) ∧ feedBytes s' = feedBytes s

/-- Two states that agree on what a command of the 128-bit width leaves and reports. -/
structure SameResult128 (i : Instr) (t t' : State) : Prop where
  ctx : t'.ctx128 = t.ctx128
  lastErr : t'.lastErr = t.lastErr
  digest : i = .fin128 → t.lastErr = 0 → DigestKept128 t t'

/-- Agreeing states are taken to agreeing results (42_murmur_finalizer.md R179). -/
theorem exec_two_runs128 {i : Instr} {s s' t : State} (hi : uses128 i = true) (same : SameInputs128 i s s')
    (h : exec i s = .next t) : ∃ t', exec i s' = .next t' ∧ SameResult128 i t t' := by
  obtain ⟨hp, hc, hseed, hblock, htail, hfeed⟩ := same
  have hraise (e : CmdError) : SameResult128 i (raise e s) (raise e s') :=
    ⟨hc, rfl, fun _ ok => absurd ok e.code_ne_zero⟩
  have hadmit (op : AdmitOp) (hr : op = .feed → (FeedInRange s' ↔ FeedInRange s)) (n : Nat) :
      admit128 op n s' = admit128 op n s := by
    rw [admit128, admission_congr hp hr, hc, admit128]
  cases i with
  | init128 =>
    cases h
    exact ⟨_, rfl, by simp [hseed rfl], rfl, nofun⟩
  | block128 =>
    rw [exec, execBlock128, hadmit .block nofun, hc, stagedK1_congr (hblock rfl), stagedK2_congr (hblock rfl)]
    refine unlessRaised_two_runs hraise (fun _ hk => ?_) h
    cases hk
    exact ⟨_, rfl, rfl, rfl, nofun⟩
  | tail128 n =>
    rw [exec, execTail128, hadmit .tail nofun, hc, tail128, tailwords128_congr (htail n rfl)]
    refine unlessRaised_two_runs hraise (fun _ => unlessRaised_two_runs hraise fun _ hk => ?_) h
    cases hk
    exact ⟨_, rfl, rfl, rfl, nofun⟩
  | feed128 =>
    obtain ⟨hlen, hin, hb⟩ := hfeed rfl
    rw [exec, execFeed128, hadmit .feed fun _ => hin, hc, hlen, hb]
    refine unlessRaised_two_runs hraise (fun _ hk => ?_) h
    cases hbs : feedBytes s with
    | none => cases hbs ▸ hk
    | some bs =>
      rw [hbs] at hk
      cases hk
      exact ⟨_, rfl, rfl, rfl, nofun⟩
  | fin128 =>
    rw [exec, execFin128, hadmit .fin nofun, hc]
    refine unlessRaised_two_runs hraise (fun _ hk => ?_) h
    cases hk
    exact ⟨_, rfl, rfl, rfl, fun _ _ => ⟨rfl, rfl, rfl, rfl⟩⟩
  | init32 | block32 | tail32 _ | feed32 | fin32 | fmix32 | fmix64 => cases hi

/-- Settles O55, width by width. -/
theorem digestDependsOnlyOnItsInputs : Obligations.DigestDependsOnlyOnItsInputs := by
  refine ⟨fun i s s' t hi hp hc hseed hblock htail hfeed h => ?_,
    fun i s s' t hi hp hc hseed hblock htail hfeed h => ?_⟩
  · obtain ⟨t', ht', hctx, herr, hdig⟩ := exec_two_runs32 hi ⟨hp, hc, hseed, hblock, htail, hfeed⟩ h
    exact ⟨t', ht', hctx, herr, hdig⟩
  · obtain ⟨t', ht', hctx, herr, hdig⟩ := exec_two_runs128 hi ⟨hp, hc, hseed, hblock, htail, hfeed⟩ h
    exact ⟨t', ht', hctx, herr, hdig⟩

end Sys2Proof.Proofs
end

section
/-! Streams of inputs on a context of either width under FAULT: what inputs in a row leave is what one input of all
their bytes leaves, and nothing is accepted after a tail. -/

namespace Sys2Proof.Proofs

open Sys2Proof.Machine Sys2Proof.Safety

/-- What streaming needs of a context: its phase, its tail bit, its length, the context after an input of bytes, and the
laws that both widths meet. -/
structure InputContext (C : Type) where
  block : Nat
  final : C → Bool
  ts : C → Bool
  len : C → Nat
  input : C → List Byte → C
  len_le : ∀ c, len c ≤ 4294967295
  final_input : ∀ c bs, final (input c bs) = final c
  ts_input : ∀ c bs, ts (input c bs) = (ts c || decide (bs.length % block ≠ 0))
  len_input : ∀ c bs, len c + bs.length ≤ 4294967295 → len (input c bs) = len c + bs.length
  input_nil : ∀ c, input c [] = c
  input_append : ∀ c bs bs', bs.length % block = 0 → input (input c bs) bs' = input c (bs ++ bs')

namespace InputContext

variable {C : Type} (K : InputContext C)

/-- The context may take an input of `n` bytes under FAULT (60_exceptions.md R206). -/
structure Accepts (c : C) (n : Nat) : Prop where
  absorb : K.final c = false
  tail : K.ts c = true → n = 0
  length : K.len c + n ≤ 4294967295

/-- Accepted inputs in a row, from the first context to the last. -/
inductive Streams : C → List (List Byte) → C → Prop
  | none (c : C) : Streams c [] c
  | input {c c' : C} {bs : List Byte} {bss : List (List Byte)} (accepted : K.Accepts c bs.length)
      (rest : Streams (K.input c bs) bss c') : Streams c (bs :: bss) c'

variable {K}

theorem Streams.final_eq {c c' : C} {bss : List (List Byte)} (h : K.Streams c bss c') : K.final c' = K.final c := by
  induction h with
  | none => rfl
  | input _ _ ih => rw [ih, K.final_input]

/-- After a tail only empty inputs are accepted, and they change nothing. -/
theorem Streams.after_tail {c c' : C} {bss : List (List Byte)} (h : K.Streams c bss c') (hts : K.ts c = true) :
    bss.flatten = [] ∧ c' = c := by
  induction h with
  | none => exact ⟨rfl, rfl⟩
  | input accepted _ ih =>
    rw [List.eq_nil_of_length_eq_zero (accepted.tail hts), K.input_nil] at ih
    obtain ⟨hflat, rfl⟩ := ih hts
    exact ⟨by rw [List.flatten_cons, List.eq_nil_of_length_eq_zero (accepted.tail hts), hflat]; rfl, rfl⟩

/-- An input of another length than whole blocks leaves the tail bit set. -/
theorem ts_input_of_unaligned (c : C) {bs : List Byte} (hbs : bs.length % K.block ≠ 0) :
    K.ts (K.input c bs) = true := by
  simp [K.ts_input, hbs]

/-- The tail bit stays set, and is set by an input of another length than whole blocks. -/
theorem Streams.ts_of_unaligned {c c' : C} {bss : List (List Byte)} (h : K.Streams c bss c')
    (hts : K.ts c = true ∨ ∃ b ∈ bss, b.length % K.block ≠ 0) : K.ts c' = true := by
  induction h with
  | none => simpa using hts
  | input _ _ ih =>
    refine ih ?_
    rcases hts with hts | ⟨b, hb, hmod⟩
    · exact .inl (by simp [K.ts_input, hts])
    · rcases List.mem_cons.1 hb with rfl | hb
      · exact .inl (ts_input_of_unaligned _ hmod)
      · exact .inr ⟨b, hb, hmod⟩

/-- An input after which a byte is accepted has whole blocks only. -/
theorem Streams.aligned {c c' : C} {pre post : List (List Byte)} {b : List Byte}
    (h : K.Streams c (pre ++ b :: post) c') (hpost : post.flatten ≠ []) : b.length % K.block = 0 := by
  induction pre generalizing c with
  | nil =>
    obtain _ | ⟨_, rest⟩ := h
    by_contra hmod
    exact hpost (rest.after_tail (ts_input_of_unaligned _ hmod)).1
  | cons x pre ih =>
    obtain _ | ⟨_, rest⟩ := h
    exact ih rest

/-- From ABSORB with no tail seen, the inputs in a row leave what one input of all their bytes leaves, and that one is
accepted. -/
theorem Streams.eq_input_flatten {c c' : C} {bss : List (List Byte)} (h : K.Streams c bss c')
    (hf : K.final c = false) (hts : K.ts c = false) :
    K.Accepts c bss.flatten.length ∧ c' = K.input c bss.flatten := by
  induction h with
  | none c => exact ⟨⟨hf, fun _ => rfl, K.len_le c⟩, (K.input_nil c).symm⟩
  | @input c c' bs bss accepted rest ih =>
    rw [List.flatten_cons]
    by_cases hmod : bs.length % K.block = 0
    · obtain ⟨⟨_, _, hlen⟩, rfl⟩ := ih (by rw [K.final_input, hf]) (by simp [K.ts_input, hts, hmod])
      rw [K.len_input c bs accepted.length, Nat.add_assoc, ← List.length_append] at hlen
      exact ⟨⟨hf, by simp [hts], hlen⟩, K.input_append c bs _ hmod⟩
    · obtain ⟨hflat, rfl⟩ := rest.after_tail (ts_input_of_unaligned c hmod)
      rw [hflat, List.append_nil]
      exact ⟨accepted, rfl⟩

end InputContext

end Sys2Proof.Proofs
end

section
/-! Streamed FEED32 commands under FAULT (O47). -/

namespace Sys2Proof.Proofs

open Sys2Proof.Machine Sys2Proof.Safety

/-- Whole words mixed first, then the other bytes, mix as all the bytes. -/
theorem absorb32_append {bs : List Byte} (hbs : bs.length % 4 = 0) (bs' : List Byte) (h : Word) :
    absorb32 (bs ++ bs') h = absorb32 bs' (absorb32 bs h) := by
  obtain ⟨nb, hnb⟩ := Nat.dvd_of_mod_eq_zero hbs
  induction nb generalizing bs h with
  | zero =>
    obtain rfl := List.eq_nil_of_length_eq_zero hnb
    rfl
  | succ nb ih =>
    have h4 : 4 ≤ bs.length := by omega
    have hdrop : (bs.drop 4).length = 4 * nb := by rw [List.length_drop]; omega
    rw [absorb32_drop h4, absorb32_drop (by rw [List.length_append]; omega), List.drop_append_of_le_length h4,
      List.take_append_of_le_length h4, ih (by omega) _ hdrop]

/-- `CTX32` after an accepted FEED32 of the bytes. -/
def fed32 (c : Ctx32) (bs : List Byte) : Ctx32 :=
  c.absorbed (absorb32 bs c.h) bs.length (decide (bs.length % 4 ≠ 0))

theorem fed32_append (c : Ctx32) {bs : List Byte} (hbs : bs.length % 4 = 0) (bs' : List Byte) :
    fed32 (fed32 c bs) bs' = fed32 c (bs ++ bs') := by
  have hmod : (bs.length + bs'.length) % 4 = bs'.length % 4 := by omega
  have haligned : decide (bs.length % 4 ≠ 0) = false := by simp [hbs]
  rw [fed32, fed32, haligned, absorbed32_absorbed32, Ctx32.absorbed_h, ← absorb32_append hbs, ← hmod,
    ← List.length_append, fed32]

/-- `CTX32` under FEED32. -/
def inputContext32 : InputContext Ctx32 where
  block := 4
  final := Ctx32.final
  ts := Ctx32.ts
  len c := c.len.toNat
  input := fed32
  len_le c := Nat.le_of_lt_succ c.len.isLt
  final_input _ _ := rfl
  ts_input _ _ := rfl
  len_input _ _ := toNat_add_ofNat
  input_nil c := by simp [fed32, absorb32, blocks32, Ctx32.absorbed, tsAfter, nonstdAfter]
  input_append c _ bs' hbs := fed32_append c hbs bs'

/-- What a successful FEED32 leaves, by the bytes it fed. -/
theorem exec_feed32_success {s t : State} {bs : List Byte} (hb : feedBytes s = some bs)
    (h : exec .feed32 s = .next t) (ok : t.lastErr = 0) : t.ctx32 = fed32 s.ctx32 bs := by
  rcases execFeed32_next h with ⟨e, _, rfl⟩ | ⟨bs', _, hb', rfl⟩
  · exact absurd ok e.code_ne_zero
  · obtain rfl : bs' = bs := Option.some.inj (hb'.symm.trans hb)
    rw [succeed32_ctx32, fed32, readRange_length hb]

/-- Successful FEED32 commands under FAULT are a stream. -/
theorem streams_of_feeds32 {p : Params} {c c' : Ctx32} {bss : List (List Byte)} (h : Feeds32 p c bss c')
    (hp : p.tailPolicy = .fault) : inputContext32.Streams c bss c' := by
  induction h with
  | none c => exact .none c
  | feed s t bs bss c' hparams hb he ok rest ih =>
    obtain ⟨hf, hadm, hlen⟩ := ready32_of_success rfl he ok
    rw [← readRange_length hb] at hadm hlen
    have hpolicy : s.params.tailPolicy ≠ .reference := by simp [hparams, hp]
    have hfed : t.ctx32 = inputContext32.input s.ctx32 bs := exec_feed32_success hb he ok
    exact .input ⟨hf, fun hts => (hadm hts).resolve_right hpolicy, hlen⟩ (hfed ▸ ih)

/-- Settles O47: the feeds are a stream, whose laws give the three claims. -/
theorem streamedFeed32EqualsOneFeed : Obligations.StreamedFeed32EqualsOneFeed := by
  intro p c c' bss h hp hf hts
  have stream := streams_of_feeds32 h hp
  refine ⟨fun pre b post hbss => ?_, fun b s hb hmod hparams hctx hin hpos => ?_, fun s hparams hctx hin hb => ?_⟩
  · subst hbss
    exact stream.aligned
  · subst hparams hctx
    have hfinal : s.ctx32.final = c.final := stream.final_eq
    exact unlessRaised_admission_of_tail (hfinal.trans hf) (fun _ => hin) nofun hpos
      (stream.ts_of_unaligned (.inr ⟨b, hb, hmod⟩)) hp
  · subst hctx
    obtain ⟨⟨_, _, hlen⟩, rfl⟩ := stream.eq_input_flatten hf hts
    have hready : Ready32 s s.flen.toNat :=
      ⟨hf, fun h => absurd (hts.symm.trans h) nofun, readRange_length hb ▸ hlen⟩
    exact ⟨_, exec_feed32_of_ready hready hin hb, rfl,
      exec_feed32_success hb (exec_feed32_of_ready hready hin hb) rfl⟩

end Sys2Proof.Proofs
end

section
/-! Streamed FEED128 commands under FAULT (O48). -/

namespace Sys2Proof.Proofs

open Sys2Proof.Machine Sys2Proof.Safety

/-- Whole blocks mixed first, then the other bytes, mix as all the bytes. -/
theorem absorb128_append {bs : List Byte} (hbs : bs.length % 16 = 0) (bs' : List Byte) (h : DWord × DWord) :
    absorb128 (bs ++ bs') h = absorb128 bs' (absorb128 bs h) := by
  obtain ⟨nb, hnb⟩ := Nat.dvd_of_mod_eq_zero hbs
  induction nb generalizing bs h with
  | zero =>
    obtain rfl := List.eq_nil_of_length_eq_zero hnb
    rfl
  | succ nb ih =>
    have h16 : 16 ≤ bs.length := by omega
    have hdrop : (bs.drop 16).length = 16 * nb := by rw [List.length_drop]; omega
    have h8 : 8 ≤ bs.length := by omega
    have hrest : 8 ≤ (bs.drop 8).length := by rw [List.length_drop]; omega
    rw [absorb128_drop h16, absorb128_drop (by rw [List.length_append]; omega), List.drop_append_of_le_length h16,
      List.drop_append_of_le_length h8, List.take_append_of_le_length h8, List.take_append_of_le_length hrest,
      ih (by omega) _ hdrop]

/-- `CTX128` after an accepted FEED128 of the bytes. -/
def fed128 (c : Ctx128) (bs : List Byte) : Ctx128 :=
  c.absorbed (absorb128 bs (c.h1, c.h2)) bs.length (decide (bs.length % 16 ≠ 0))

theorem fed128_append (c : Ctx128) {bs : List Byte} (hbs : bs.length % 16 = 0) (bs' : List Byte) :
    fed128 (fed128 c bs) bs' = fed128 c (bs ++ bs') := by
  have hmod : (bs.length + bs'.length) % 16 = bs'.length % 16 := by omega
  have haligned : decide (bs.length % 16 ≠ 0) = false := by simp [hbs]
  rw [fed128, fed128, haligned, absorbed128_absorbed128, Ctx128.absorbed_h1, Ctx128.absorbed_h2, Prod.mk.eta,
    ← absorb128_append hbs, ← hmod, ← List.length_append, fed128]

/-- `CTX128` under FEED128. -/
def inputContext128 : InputContext Ctx128 where
  block := 16
  final := Ctx128.final
  ts := Ctx128.ts
  len c := c.len.toNat
  input := fed128
  len_le c := Nat.le_of_lt_succ c.len.isLt
  final_input _ _ := rfl
  ts_input _ _ := rfl
  len_input _ _ := toNat_add_ofNat
  input_nil c := by simp [fed128, absorb128, blocks128, Ctx128.absorbed, tsAfter, nonstdAfter]
  input_append c _ bs' hbs := fed128_append c hbs bs'

/-- What a successful FEED128 leaves, by the bytes it fed. -/
theorem exec_feed128_success {s t : State} {bs : List Byte} (hb : feedBytes s = some bs)
    (h : exec .feed128 s = .next t) (ok : t.lastErr = 0) : t.ctx128 = fed128 s.ctx128 bs := by
  rcases execFeed128_next h with ⟨e, _, rfl⟩ | ⟨bs', _, hb', rfl⟩
  · exact absurd ok e.code_ne_zero
  · obtain rfl : bs' = bs := Option.some.inj (hb'.symm.trans hb)
    rw [succeed128_ctx128, fed128, readRange_length hb]

/-- Successful FEED128 commands under FAULT are a stream. -/
theorem streams_of_feeds128 {p : Params} {c c' : Ctx128} {bss : List (List Byte)} (h : Feeds128 p c bss c')
    (hp : p.tailPolicy = .fault) : inputContext128.Streams c bss c' := by
  induction h with
  | none c => exact .none c
  | feed s t bs bss c' hparams hb he ok rest ih =>
    obtain ⟨hf, hadm, hlen⟩ := ready128_of_success rfl he ok
    rw [← readRange_length hb] at hadm hlen
    have hpolicy : s.params.tailPolicy ≠ .reference := by simp [hparams, hp]
    have hfed : t.ctx128 = inputContext128.input s.ctx128 bs := exec_feed128_success hb he ok
    exact .input ⟨hf, fun hts => (hadm hts).resolve_right hpolicy, hlen⟩ (hfed ▸ ih)

/-- Settles O48: the feeds are a stream, whose laws give the three claims. -/
theorem streamedFeed128EqualsOneFeed : Obligations.StreamedFeed128EqualsOneFeed := by
  intro p c c' bss h hp hf hts
  have stream := streams_of_feeds128 h hp
  refine ⟨fun pre b post hbss => ?_, fun b s hb hmod hparams hctx hin hpos => ?_, fun s hparams hctx hin hb => ?_⟩
  · subst hbss
    exact stream.aligned
  · subst hparams hctx
    have hfinal : s.ctx128.final = c.final := stream.final_eq
    exact unlessRaised_admission_of_tail (hfinal.trans hf) (fun _ => hin) nofun hpos
      (stream.ts_of_unaligned (.inr ⟨b, hb, hmod⟩)) hp
  · subst hctx
    obtain ⟨⟨_, _, hlen⟩, rfl⟩ := stream.eq_input_flatten hf hts
    have hready : Ready128 s s.flen.toNat :=
      ⟨hf, fun h => absurd (hts.symm.trans h) nofun, readRange_length hb ▸ hlen⟩
    exact ⟨_, exec_feed128_of_ready hready hin hb, rfl,
      exec_feed128_success hb (exec_feed128_of_ready hready hin hb) rfl⟩

end Sys2Proof.Proofs
end
